-- ==== Sys2Proof/Word.lean ====
section
/-! DEFINITION. The words of the block (00_scope.md R8, R10): bytes, the 32-bit address and datum, the 54-bit command
word, the 16-bit command-store address. All values are unsigned; the block has no signed arithmetic. -/

namespace Sys2Proof

/-- One payload byte (R22). -/
abbrev Byte := BitVec 8

/-- A bus address or datum: `ABITS` = `DBITS` = 32 (R8, R60). -/
abbrev Word := BitVec 32

/-- A command word: `WORDBITS` = 3 + 3 + 48 = 54 (R8, R90). -/
abbrev CmdWord := BitVec 54

/-- A command-store address: `STORE_ABITS` = 16 (R8, R63). -/
abbrev StoreAddr := BitVec 16

end Sys2Proof
end

