-- ==== Sys2Proof/Syntax.lean ====
section
/-! DEFINITION. The twelve rows of spec/opcode_table.json, one constructor each: the five Script Opcodes and the three
illegal opcode values of format `CMD54` (R90, R91), and the four operations of format `HDR32` (R96, R191); and the
operation record a header decodes to (R27, R190). -/

namespace Sys2Proof

/-- One row of the opcode table with its operands. `count` and `data` of a command that ignores them (R92, R93, R127)
are kept, so that no bit of a command word is dropped. The `addr` of an operation is the transaction address (R96). -/
inductive Instr where
  /-- `IDLE`, R122. -/
  | idle (count : BitVec 3) (data : BitVec 48)
  /-- `START`, R123. -/
  | start (count : BitVec 3) (data : BitVec 48)
  /-- `STARTCLR` (`start-and-clear`), R124. -/
  | startclr (count : BitVec 3) (data : BitVec 48)
  /-- `DATA`, R125. -/
  | data (count : BitVec 3) (data : BitVec 48)
  /-- `DATALAST` (`data-last`), R126. -/
  | datalast (count : BitVec 3) (data : BitVec 48)
  /-- Illegal opcode value 5, R127. -/
  | illegal5 (count : BitVec 3) (data : BitVec 48)
  /-- Illegal opcode value 6, R127. -/
  | illegal6 (count : BitVec 3) (data : BitVec 48)
  /-- Illegal opcode value 7, R127. -/
  | illegal7 (count : BitVec 3) (data : BitVec 48)
  /-- `RD`, single read, R193. -/
  | rd (addr : Word)
  /-- `WZ`, write of zero, R194. -/
  | wz (addr : Word)
  /-- `POLL`, bounded poll, R195. -/
  | poll (addr : Word)
  /-- `WR`, single write, R196. -/
  | wr (addr : Word)
deriving DecidableEq, Repr

/-- The kind of an operation (R27, R190). -/
inductive OpKind where
  | read
  | write
  | poll
deriving DecidableEq, Repr

/-- What a header decodes to (R27, R190). -/
structure Operation where
  kind : OpKind
  /-- the one address of all its transactions -/
  addr : Word
  /-- bytes of operand group per transaction (for a poll: of its one read-expect group) -/
  opndLen : Nat
  /-- transactions of a read or a write (not used by a poll) -/
  ntrans : Nat
  /-- result bytes returned per read -/
  rbytes : Nat
  /-- read attempts a poll may make (used by polls only) -/
  budget : Nat
deriving DecidableEq, Repr

end Sys2Proof
end

