-- ==== Sys2Proof/WellFormed.lean ====
section
/-! DEFINITION. What is well formed: instructions an encoding of the spec admits (R90, R96), command words the spec calls
legal (R100), and operation records a header layout may return (R190). -/

namespace Sys2Proof

/-- The two low bits of the address are zero, as they are in every address the default layout produces (R96, R68). -/
def addrAligned (a : Word) : Bool := a.extractLsb' 0 2 == 0#2

/-- The instruction is the decoding of some word: every command is (R90, R92, R93); an operation is when its address has
the two low bits zero, because those bits of the header word hold `grp` and `dir` (R96). -/
def Instr.wellFormed : Instr → Bool
  | .idle _ _ => true
  | .start _ _ => true
  | .startclr _ _ => true
  | .data _ _ => true
  | .datalast _ _ => true
  | .illegal5 _ _ => true
  | .illegal6 _ _ => true
  | .illegal7 _ _ => true
  | .rd a => addrAligned a
  | .wz a => addrAligned a
  | .poll a => addrAligned a
  | .wr a => addrAligned a

/-- The encoding is legal (R100): the opcode is one of the five, and the count of a payload command is 0 to 6. Every
header word is legal under `HL_DEFAULT`. An illegal command is still executed: it raises its cause (R127, R128). -/
def Instr.legal : Instr → Bool
  | .idle _ _ => true
  | .start _ _ => true
  | .startclr _ _ => true
  | .data c _ => c != 7#3
  | .datalast c _ => c != 7#3
  | .illegal5 _ _ => false
  | .illegal6 _ _ => false
  | .illegal7 _ _ => false
  | .rd _ => true
  | .wz _ => true
  | .poll _ => true
  | .wr _ => true

/-- The constraints R190 puts on every record a header layout returns. -/
def Operation.lawful (o : Operation) : Bool :=
  match o.kind with
  | .read => o.opndLen == 0 && decide (o.rbytes ≤ 4) && decide (1 ≤ o.ntrans)
  | .write => decide (o.opndLen ≤ 4) && o.rbytes == 0 && decide (1 ≤ o.ntrans)
  | .poll => o.opndLen == 8 && o.rbytes == 0 && decide (1 ≤ o.budget)

end Sys2Proof
end

