-- ==== Sys2Proof/Decode.lean ====
section
/-! DEFINITION. Byte lists (R11), the decoder of command words (R90, R91, R106) and of header words (R96, R191), the
encoder written from the same tables, and `decodeTableWord`. -/

namespace Sys2Proof

/-! ### Byte lists (R11) -/

/-- `LE(l)`: little-endian assembly of a byte list; `LE([]) = 0` (R11, R65). -/
def leNat : List Byte → Nat
  | [] => 0
  | b :: bs => b.toNat + 256 * leNat bs

/-- `zext_32(LE(l))`, exact for lists of at most four bytes (R11, R70, R198 (a)). -/
def leWord (l : List Byte) : Word := BitVec.ofNat 32 (leNat l)

/-- `bytes_LE(v, k)`: the `k` low bytes of `v`, least significant first (R11). -/
def bytesLE (v : Nat) : Nat → List Byte
  | 0 => []
  | k + 1 => BitVec.ofNat 8 v :: bytesLE (v / 256) k

/-! ### Decoding -/

/-- The command a 54-bit word is (R90, R91): bits 53:51 opcode, 50:48 count, 47:0 data. Total: opcode values 5, 6 and 7
are the illegal commands of R100. -/
def decodeCmd (w : CmdWord) : Instr :=
  let count := w.extractLsb' 48 3
  let data := w.extractLsb' 0 48
  match (w.extractLsb' 51 3).toNat with
  | 0 => .idle count data
  | 1 => .start count data
  | 2 => .startclr count data
  | 3 => .data count data
  | 4 => .datalast count data
  | 5 => .illegal5 count data
  | 6 => .illegal6 count data
  | _ => .illegal7 count data

/-- The operation a header word selects under `HL_DEFAULT` (R96, R106, R191): the address is the word with its two low
bits cleared, and bits 1:0 choose the operation. Total: every header word is legal (R100). -/
def decodeHdr (h : Word) : Instr :=
  let addr := h &&& 0xFFFFFFFC#32
  match (h.extractLsb' 0 2).toNat with
  | 0 => .rd addr
  | 1 => .wz addr
  | 2 => .poll addr
  | _ => .wr addr

/-- Why bytes are no instruction. -/
inductive DecodeReject where
  /-- The bytes are neither the four of a header (R191) nor the seven that hold a command word (R90). -/
  | notAnInstructionLength
  /-- Bits 55:54 of the seven bytes are not zero: a command word has 54 bits (R90). -/
  | bitsAboveCommandWord
deriving DecidableEq, Repr

/-- What the decoder answers on bytes. -/
inductive Decoded where
  | ok (i : Instr)
  | rejected (r : DecodeReject)
deriving DecidableEq, Repr

/-- The decoder on any bytes. Four bytes are a header, in arrival order (R65, R95). Seven bytes are a command word, its
bits 7:0 first: the convention of this model (DESIGN CHOICE, log 7), since the hardware moves a command word whole
(R67). -/
def decode : List Byte → Decoded
  | [b0, b1, b2, b3] => .ok (decodeHdr (leWord [b0, b1, b2, b3]))
  | [b0, b1, b2, b3, b4, b5, b6] =>
    let w := leNat [b0, b1, b2, b3, b4, b5, b6]
    if w < 2 ^ 54 then .ok (decodeCmd (BitVec.ofNat 54 w)) else .rejected .bitsAboveCommandWord
  | _ => .rejected .notAnInstructionLength

/-! ### Encoding -/

/-- The command word with the given opcode, count and data (R90). -/
def cmdWord (op : BitVec 3) (count : BitVec 3) (data : BitVec 48) : CmdWord :=
  (op ++ count ++ data : BitVec (3 + 3 + 48))

/-- The header word with the given address and `grp`,`dir` bits (R96). -/
def hdrWord (addr : Word) (grpDir : BitVec 2) : Word :=
  (addr.extractLsb' 2 30 ++ grpDir : BitVec (30 + 2))

/-- The bits of an instruction's encoding as a number, bit 0 least significant (R90, R91, R96, R191). -/
def encodeNat : Instr → Nat
  | .idle c d => (cmdWord 0#3 c d).toNat
  | .start c d => (cmdWord 1#3 c d).toNat
  | .startclr c d => (cmdWord 2#3 c d).toNat
  | .data c d => (cmdWord 3#3 c d).toNat
  | .datalast c d => (cmdWord 4#3 c d).toNat
  | .illegal5 c d => (cmdWord 5#3 c d).toNat
  | .illegal6 c d => (cmdWord 6#3 c d).toNat
  | .illegal7 c d => (cmdWord 7#3 c d).toNat
  | .rd a => (hdrWord a 0#2).toNat
  | .wz a => (hdrWord a 1#2).toNat
  | .poll a => (hdrWord a 2#2).toNat
  | .wr a => (hdrWord a 3#2).toNat

/-- How many bytes hold the encoding: seven for a command word (54 bits), four for a header (R90, R191). -/
def encodedLength : Instr → Nat
  | .idle _ _ => 7
  | .start _ _ => 7
  | .startclr _ _ => 7
  | .data _ _ => 7
  | .datalast _ _ => 7
  | .illegal5 _ _ => 7
  | .illegal6 _ _ => 7
  | .illegal7 _ _ => 7
  | .rd _ => 4
  | .wz _ => 4
  | .poll _ => 4
  | .wr _ => 4

/-- The bytes of an instruction, in the order `decode` reads them. -/
def encode (i : Instr) : List Byte := bytesLE (encodeNat i) (encodedLength i)

/-- The command word a `CMD54` row is stored as; none for an operation, which is carried by payload bytes (R90, R95). -/
def encodeCmdWord (i : Instr) : Option CmdWord :=
  if encodedLength i = 7 then some (BitVec.ofNat 54 (encodeNat i)) else none

/-! ### The host's question -/

/-- How many bytes a table row of `nbits` bits has: four for the `HDR32` rows, seven for the `CMD54` rows. -/
def tableBytes (nbits : Nat) : Nat := if nbits ≤ 32 then 4 else 7

/-- The instruction the decoder reads from a table row's bits; none where it rejects, or where `w` has a bit above the
row's bytes. -/
def decodeTableWord (nbits w : Nat) : Option Instr :=
  if w < 256 ^ tableBytes nbits then
    match decode (bytesLE w (tableBytes nbits)) with
    | .ok i => some i
    | .rejected _ => none
  else none

end Sys2Proof
end

