-- ==== Sys2Proof/Config.lean ====
section
/-! DEFINITION. What an implementation fixes (R8) and what the environment decides: constants with no body, of which
nothing can be proved, and the header layout as a parameter (R190). -/

namespace Sys2Proof.Config

/-- `FETCH_LATENCY` less one: the spec leaves `L >= 1` open (R8, R245, U4, D30). DESIGN CHOICE, log 3. -/
opaque fetchLatencyPred : Nat

/-- `POLL_BUDGET` less one: the spec leaves `N >= 1` open (R8, R195, U5, D8). DESIGN CHOICE, log 3. -/
opaque pollBudgetPred : Nat

/-- `rdata` on the bus in cycle `t`, where no input is scheduled (R6 (b), R43). DESIGN CHOICE, log 2. -/
opaque freeRdata : Nat → Word

/-- `ready` on the bus in cycle `t`, where no input is scheduled (R6 (b), R43). DESIGN CHOICE, log 2. -/
opaque freeReady : Nat → Bool

/-- `err` on the bus in cycle `t`, where no input is scheduled (R6 (b), R43). DESIGN CHOICE, log 2. -/
opaque freeErr : Nat → Bool

/-- `req.valid` in cycle `t`, where no input is scheduled (R42, R229). DESIGN CHOICE, log 2. -/
opaque freeValid : Nat → Bool

/-- `req.payload` in cycle `t`, where no input is scheduled (R42, R229). DESIGN CHOICE, log 2. -/
opaque freePayload : Nat → CmdWord

/-- `store_req.addr` in cycle `t`, in a cycle for which no rule gives it: R242 and R243 give `read = 0` only. A free value,
log 19. -/
opaque freeStoreAddr : Nat → StoreAddr

/-- `MAXPULSE`: most bytes one consumption pulse or one result pulse moves (R8). -/
def maxPulse : Nat := 3

/-- `HDR_LEN` under `HL_DEFAULT` (R8, R191). -/
def hdrLen : Nat := 4

/-- `IP_RESET` (R8, D32). -/
def ipReset : StoreAddr := 0#16

/-- `HEADER_LAYOUT` (R190): how many bytes a header has and which operation they decode to. The step of this model takes
`HL_DEFAULT` (log 4); the engine's cycle is written over any layout. -/
structure HeaderLayout where
  hdrLen : Nat
  decodeHeader : List Byte → Operation

/-- The contract of R190: at least one header byte, and a lawful record for every header. -/
def HeaderLayout.Lawful (L : HeaderLayout) : Prop :=
  1 ≤ L.hdrLen ∧ ∀ l : List Byte, l.length = L.hdrLen → (L.decodeHeader l).lawful = true

end Sys2Proof.Config
end

