-- ==== Sys2Proof/Machine/State.lean ====
section
/-! DEFINITION. The state of one engine instance (10_state.md R20 to R41), the faults and refusals a step can end in, and
the reset state (R48). -/

namespace Sys2Proof.Machine

/-- The Transaction Sequencer's state (R21). -/
inductive Seq where
  | idle
  | awaitingAddress
  | executing
  | completing
  | completed
  | pollFailed
  | errored
deriving DecidableEq, Repr

/-- The five causes (R38, R260). -/
inductive Cause where
  | malformedOpcode
  | invalidByteCount
  | incompleteOperation
  | busFault
  | pollExhausted
deriving DecidableEq, Repr

/-- Which terminal state `Completing` will enter (R31). -/
inductive RunOutcome where
  | ok
  | pollFail
deriving DecidableEq, Repr

/-- The one outstanding bus transaction (R32, R210). -/
structure Txn where
  addr : Word
  write : Bool
  wdata : Word
deriving DecidableEq, Repr

/-- The fetch state of the Autonomous Front End (R41). -/
inductive FetchState where
  | noFetch
  | pending (k : Nat)
  | held (w : CmdWord)
deriving DecidableEq, Repr

/-- The two instances differ in their front end only (R2). -/
inductive FrontEnd where
  | stream
  | autonomous
deriving DecidableEq, Repr

/-- The bus response sampled in a cycle (R43, `bus_resp`). -/
structure BusResp where
  rdata : Word
  ready : Bool
  err : Bool
deriving DecidableEq, Repr

/-- The request object of the stream-fed instance (R42, R94, `req`). -/
structure Request where
  valid : Bool
  payload : CmdWord
deriving DecidableEq, Repr

/-- What the environment answers in one cycle (R15, R16). -/
structure Inputs where
  bus : BusResp
  req : Request
deriving DecidableEq, Repr

/-- The open parameters of R8 that are numbers: `FETCH_LATENCY` and `POLL_BUDGET`. -/
structure Params where
  fetchLatency : Nat
  pollBudget : Nat
deriving DecidableEq, Repr

/-- The command store as plain data: the words that are not the all-zero word, with their addresses, in strictly rising
order (`Memory.wf`). A word not listed is the all-zero word, which is `IDLE` (R63, R246, D39; log 5). -/
abbrev Memory := List (Nat × CmdWord)

/-- The state record `s` of R20, with the model's own fields at the end (INVENTORY.md, State). -/
structure State where
  /-- R21 -/
  seq : Seq
  /-- the byte queue, oldest first (R22) -/
  q : List Byte
  /-- payload bytes accumulated in this run (R23) -/
  acc : Nat
  /-- the address-setup group consumed so far (R24) -/
  hdr : List Byte
  /-- the operand group consumed so far (R25) -/
  opnd : List Byte
  /-- the run's `data-last` has been accepted (R26) -/
  lastSeen : Bool
  /-- the decoded operation (R27) -/
  op : Option Operation
  /-- transactions retired without error (R28) -/
  transDone : Nat
  /-- poll attempts retired without error (R29) -/
  attempts : Nat
  /-- an attempt met the poll condition (R30) -/
  pollMet : Bool
  /-- R31 -/
  outcome : RunOutcome
  /-- the outstanding transaction (R32) -/
  txn : Option Txn
  /-- a consumption pulse happened in the previous cycle (R33) -/
  cool : Bool
  /-- a result pulse happened in the previous cycle (R34) -/
  rcool : Bool
  /-- result bytes not yet handed to the caller, oldest first (R35) -/
  rbuf : List Byte
  /-- the residual error/poll state (R38) -/
  resid : Option Cause
  /-- the instruction pointer, autonomous instance only (R40) -/
  ip : StoreAddr
  /-- R41, autonomous instance only -/
  fstate : FetchState
  /-- which instance this is (R2): the model's own field, never written (log 1) -/
  frontEnd : FrontEnd
  /-- the open parameters (R8): the model's own field, never written (log 3) -/
  params : Params
  /-- the command store (R63): the environment's, never written by a step (log 5) -/
  store : Memory
  /-- the environment's answers of this cycle (head) and of the cycles after it (log 2) -/
  inputs : List Inputs
  /-- the number of this cycle (R9), which free inputs are applied to (log 2) -/
  now : Nat
deriving DecidableEq, Repr

/-- Why the machine stops. -/
inductive Fault where
  /-- Raised by `sequencer` in `Executing` when no operation is decoded. R163 reads `s.op` there and no rule says what
  happens without one; no run reaches such a state. Safe: the model stops where the spec is silent. Log 10. -/
  | noOperation
deriving DecidableEq, Repr

/-- Why an instruction is refused. -/
inductive Refusal where
  /-- Raised by an arm of `exec` whose instruction has no meaning yet. No arm does: every row of the table has its
  meaning. Safe. -/
  | notModelled (mnemonic : String)
deriving DecidableEq, Repr

/-- The outcome of a step, an action or a meaning. -/
abbrev Result := Host.Outcome State Fault Refusal

/-- The state of the given instance right after reset (R48, R290). The five fields at the end are the model's own: the
parameters are free constants of Config, the store lists nothing and no input is scheduled (logs 1, 2, 3, 5). -/
def State.resetOf (f : FrontEnd) : State where
  seq := .idle
  q := []
  acc := 0
  hdr := []
  opnd := []
  lastSeen := false
  op := none
  transDone := 0
  attempts := 0
  pollMet := false
  outcome := .ok
  txn := none
  cool := false
  rcool := false
  rbuf := []
  resid := none
  ip := Config.ipReset
  fstate := .noFetch
  frontEnd := f
  params := { fetchLatency := Config.fetchLatencyPred + 1, pollBudget := Config.pollBudgetPred + 1 }
  store := []
  inputs := []
  now := 0

/-- The machine right after reset (R48, R290): the autonomous instance (DESIGN CHOICE, log 1), the one whose state holds
an instruction pointer. -/
def State.reset : State := State.resetOf .autonomous

end Sys2Proof.Machine
end

