-- ==== Sys2Proof/Machine/Operands.lean ====
section
/-! DEFINITION. Every operand form: the payload bytes of a command (R93), the operand groups (R97), the operation records
of the default header layout (R191, R192), and the inputs of the cycle (R150). -/

namespace Sys2Proof.Machine

/-! ### Payload of a command -/

/-- The valid payload bytes of a `DATA` or `DATALAST` command, in arrival order: byte `i` is bits `8*i+7 : 8*i` of `data`,
and bytes at and above `count` are ignored (R93). -/
def payloadBytes (count : BitVec 3) (data : BitVec 48) : List Byte :=
  (bytesLE data.toNat 6).take count.toNat

/-! ### Operand groups -/

/-- The datum of a write: `zext_32(LE(opnd))` (R70, R97). -/
def writeDatum (opnd : List Byte) : Word := leWord opnd

/-- The mask of a read-expect group: its first four bytes (R65, R97). -/
def expectMask (opnd : List Byte) : Word := leWord (opnd.take 4)

/-- The expected value of a read-expect group: its bytes after the fourth (R65, R97). -/
def expectValue (opnd : List Byte) : Word := leWord (opnd.drop 4)

/-- The poll condition: `(rdata AND mask) = value` (R165, R195, R198 (c)). -/
def pollHit (opnd : List Byte) (rdata : Word) : Bool :=
  rdata &&& expectMask opnd == expectValue opnd

/-- The result bytes a read returns: `bytes_LE(rdata, rbytes)` (R66, R165). -/
def resultBytes (rdata : Word) (rbytes : Nat) : List Byte := bytesLE rdata.toNat rbytes

/-! ### Operation records -/

/-- `RD` at `addr` (R191, R193). The budget is unused (log 11). -/
def rdOperation (addr : Word) : Operation :=
  { kind := .read, addr := addr, opndLen := 0, ntrans := 1, rbytes := 4, budget := 1 }

/-- `WZ` at `addr` (R191, R194). The budget is unused (log 11). -/
def wzOperation (addr : Word) : Operation :=
  { kind := .write, addr := addr, opndLen := 0, ntrans := 1, rbytes := 0, budget := 1 }

/-- `POLL` at `addr` with the engine's retry budget (R191, R195). `ntrans` is unused (log 11). -/
def pollOperation (addr : Word) (budget : Nat) : Operation :=
  { kind := .poll, addr := addr, opndLen := 8, ntrans := 1, rbytes := 0, budget := budget }

/-- `WR` at `addr` (R191, R196). The budget is unused (log 11). -/
def wrOperation (addr : Word) : Operation :=
  { kind := .write, addr := addr, opndLen := 4, ntrans := 1, rbytes := 0, budget := 1 }

/-- `decode_header` of `HL_DEFAULT` (R191): `addr = H AND 0xFFFFFFFC`, and bits 1:0 of `H` choose the row. -/
def decodeHeaderDefault (budget : Nat) (hdr : List Byte) : Operation :=
  let h := leWord hdr
  let addr := h &&& 0xFFFFFFFC#32
  match h.getLsbD 1, h.getLsbD 0 with
  | false, false => rdOperation addr
  | false, true => wzOperation addr
  | true, false => pollOperation addr budget
  | true, true => wrOperation addr

/-- `HL_DEFAULT` (R191) with `POLL_BUDGET = budget`. -/
def hlDefault (budget : Nat) : Config.HeaderLayout :=
  { hdrLen := Config.hdrLen, decodeHeader := decodeHeaderDefault budget }

/-- `required(o)`: the payload bytes a run with operation `o` must accumulate (R192). -/
def required (hdrLen : Nat) (o : Operation) : Nat :=
  match o.kind with
  | .poll => hdrLen + 8
  | .read => hdrLen + o.ntrans * o.opndLen
  | .write => hdrLen + o.ntrans * o.opndLen

/-! ### Inputs of the cycle -/

/-- The environment's free answers in cycle `t`: constants of which nothing is known (R6, R15; log 2). -/
def freeInputs (t : Nat) : Inputs :=
  { bus := { rdata := Config.freeRdata t, ready := Config.freeReady t, err := Config.freeErr t },
    req := { valid := Config.freeValid t, payload := Config.freePayload t } }

/-- The inputs of this cycle: the scheduled ones, and free ones where none is scheduled (R150; log 2). -/
def State.inputsNow (s : State) : Inputs :=
  match s.inputs with
  | i :: _ => i
  | [] => freeInputs s.now

/-- `bus_resp` of this cycle (R43, R150). -/
def State.busIn (s : State) : BusResp := s.inputsNow.bus

/-- `req` of this cycle (R42). -/
def State.reqIn (s : State) : Request := s.inputsNow.req

end Sys2Proof.Machine
end

