-- ==== Sys2Proof/Machine/Flags.lean ====
section
/-! DEFINITION. The derived predicates and the flag computations: `running`, `terminal`, `can_accept` (R13, R152), `done`
and `need` (R163), the sizes of the pulses (R130, R160), which decide `cool` and `rcool` (R161 step 5), and the
sufficiency condition (R132). -/

namespace Sys2Proof.Machine

/-- `running(s)` (R13). -/
def State.running (s : State) : Bool :=
  match s.seq with
  | .awaitingAddress => true
  | .executing => true
  | .completing => true
  | .idle => false
  | .completed => false
  | .pollFailed => false
  | .errored => false

/-- `terminal(s)` (R13). -/
def State.terminal (s : State) : Bool :=
  match s.seq with
  | .completed => true
  | .pollFailed => true
  | .errored => true
  | .idle => false
  | .awaitingAddress => false
  | .executing => false
  | .completing => false

/-- `can_accept(s)` (R152). -/
def State.canAccept (s : State) : Bool :=
  s.txn.isNone && s.seq != .completing && !(s.running && s.lastSeen)

/-- `done(s)` for the operation `o` (R163). -/
def opDone (o : Operation) (s : State) : Bool :=
  match o.kind with
  | .poll => s.pollMet || s.attempts == o.budget
  | .read => s.transDone == o.ntrans
  | .write => s.transDone == o.ntrans

/-- `need(s)` for the operation `o`: the bytes `opnd` must hold before the next issue (R163). -/
def opNeed (o : Operation) : Nat := o.opndLen

/-- The size of a consumption pulse into a group that holds `have_` of `need` bytes (R130): 0 when there is none. -/
def pulseSize (s : State) (have_ need : Nat) : Nat :=
  if s.cool = false ∧ s.q ≠ [] then min Config.maxPulse (min s.q.length (need - have_)) else 0

/-- `out.consumed`: the bytes the consumption pulse of this cycle takes from `q` (R130, R159, R154, R156). -/
def consumedOf (hdrLen : Nat) (s : State) : Nat :=
  match s.seq with
  | .awaitingAddress => if s.hdr.length = hdrLen then 0 else pulseSize s s.hdr.length hdrLen
  | .executing =>
    match s.txn, s.op with
    | none, some o =>
      if opDone o s then 0
      else if s.opnd.length < opNeed o then pulseSize s s.opnd.length (opNeed o)
      else 0
    | none, none => 0
    | some _, _ => 0
  | .idle => 0
  | .completing => 0
  | .completed => 0
  | .pollFailed => 0
  | .errored => 0

/-- `out.rvalid`: the result bytes handed to the caller in this cycle (R160). -/
def State.rvalid (s : State) : Nat :=
  if s.rcool = false then min Config.maxPulse s.rbuf.length else 0

/-- The condition of the sufficiency check (R132): after `data-last` the accumulated payload is short of the header, or
short of what the decoded operation requires. -/
def insufficient (hdrLen : Nat) (s : State) : Bool :=
  s.running && s.lastSeen &&
    (decide (s.acc < hdrLen) ||
      match s.op with
      | none => false
      | some o => decide (s.acc < required hdrLen o))

end Sys2Proof.Machine
end

