-- ==== Sys2Proof/Machine/Ops.lean ====
section
/-! DEFINITION. The named operations: the command store, the run-clearing procedure (R46), the one procedure behind every
error, `fail` (R264), and the automatic return from it (R158, R272), the byte queue (R129, R130), the transactions (R155,
R164, R165), completion (R157), the actions of an operation (R154 to R157), the sufficiency check (R132) and the front
ends (R225 to R249). -/

namespace Sys2Proof.Machine

/-! ### Outcomes -/

/-- Go on with `f` from the next state; a stop stays a stop. -/
def andThen (r : Result) (f : State → Result) : Result :=
  match r with
  | .next s => f s
  | .fault e => .fault e
  | .refused e => .refused e

/-! ### The command store (R63, R246) -/

/-- What an address that is not listed holds: the all-zero word, which is `IDLE` (R246, D39; log 5). -/
def Memory.unlisted : CmdWord := 0#54

/-- `StoreRead(a)` (R12, R63), on the list. -/
def Memory.read : Memory → Nat → CmdWord
  | [], _ => Memory.unlisted
  | (b, w) :: m, a => if a = b then w else Memory.read m a

/-- The list without its entries at `a`. -/
def Memory.erase : Memory → Nat → Memory
  | [], _ => []
  | (b, w) :: m, a => if a = b then Memory.erase m a else (b, w) :: Memory.erase m a

/-- The list with the entry `(a, w)` put in its place. -/
def Memory.insert : Memory → Nat → CmdWord → Memory
  | [], a, w => [(a, w)]
  | (b, v) :: m, a, w =>
    if a < b then (a, w) :: (b, v) :: m
    else if a = b then (a, w) :: m
    else (b, v) :: Memory.insert m a w

/-- The contents after the word at `a` has been set from outside, before cycle 0 (R292). No step writes the store (R63,
R78). Setting the word an unlisted address holds removes the entry. -/
def Memory.write (m : Memory) (a : StoreAddr) (w : CmdWord) : Memory :=
  if w = Memory.unlisted then Memory.erase m a.toNat else Memory.insert m a.toNat w

/-- The addresses rise strictly. -/
def Memory.rising : Memory → Bool
  | [] => true
  | (a, _) :: m =>
    (match m with
      | [] => true
      | (b, _) :: _ => decide (a < b)) && Memory.rising m

/-- The canonical form: 16-bit addresses, strictly rising, and no entry equal to what an unlisted address holds. -/
def Memory.wf (m : Memory) : Bool :=
  Memory.rising m && m.all fun c => decide (c.1 < 2 ^ 16) && c.2 != Memory.unlisted

/-! ### The run (R46) and its errors (R264) -/

/-- `clear_run()` (R46). -/
def State.clearRun (s : State) : State :=
  { s with
    q := [], acc := 0, hdr := [], opnd := [], lastSeen := false, op := none, transDone := 0, attempts := 0,
    pollMet := false, outcome := .ok, txn := none, rbuf := [] }

/-- `fail(cause)` (R264): the entry to `Errored`, behind every `raise`. What is saved is the cause, in `resid`; the run is
cleared; `cool`, `rcool`, `ip` and `fstate` are not written. The argument a `raise` carries is not stored (R260). -/
def State.fail (c : Cause) (s : State) : State :=
  { s.clearRun with seq := .errored, resid := some c }

/-- The return from a terminal state (R158, R272): `Idle`, nothing restored, `resid` kept. -/
def State.returnToIdle (s : State) : State := { s with seq := .idle }

/-- A run opens (R123): the run state is cleared and `seq` is `AwaitingAddress`; `resid` is kept. -/
def State.openRun (s : State) : State := { s.clearRun with seq := .awaitingAddress }

/-! ### The byte queue -/

/-- `append(c)` (R129): the valid payload bytes go to the tail of the queue, and `acc` counts them. -/
def State.append (count : BitVec 3) (data : BitVec 48) (s : State) : State :=
  { s with q := s.q ++ payloadBytes count data, acc := s.acc + count.toNat }

/-- A consumption pulse of `n` bytes into `hdr` (R130, R154). -/
def State.popHdr (n : Nat) (s : State) : State :=
  { s with hdr := s.hdr ++ s.q.take n, q := s.q.drop n }

/-- A consumption pulse of `n` bytes into `opnd` (R130, R156). -/
def State.popOpnd (n : Nat) (s : State) : State :=
  { s with opnd := s.opnd ++ s.q.take n, q := s.q.drop n }

/-! ### Transactions -/

/-- The transaction `issue()` puts on the bus (R164): a read carries `wdata = 0` (R211). -/
def issuedTxn (o : Operation) (s : State) : Txn :=
  match o.kind with
  | .write => { addr := o.addr, write := true, wdata := writeDatum s.opnd }
  | .read => { addr := o.addr, write := false, wdata := 0#32 }
  | .poll => { addr := o.addr, write := false, wdata := 0#32 }

/-- `issue()` (R164). -/
def State.issue (o : Operation) (s : State) : State := { s with txn := some (issuedTxn o s) }

/-- `retire_ok` of a write (R165), with the `txn <- none` of R155. -/
def State.retireWrite (s : State) : State :=
  { s with txn := none, transDone := s.transDone + 1, opnd := [] }

/-- `retire_ok` of a read (R165), with the `txn <- none` of R155. -/
def State.retireRead (rdata : Word) (rbytes : Nat) (s : State) : State :=
  { s with txn := none, transDone := s.transDone + 1, rbuf := s.rbuf ++ resultBytes rdata rbytes }

/-- `retire_ok` of a poll attempt (R165), with the `txn <- none` of R155: the condition is tested on every attempt, the
last one included; `opnd` is kept. -/
def State.retirePoll (rdata : Word) (budget : Nat) (s : State) : State :=
  { s with
    txn := none, attempts := s.attempts + 1,
    pollMet := s.pollMet || pollHit s.opnd rdata,
    outcome := if pollHit s.opnd rdata = false ∧ s.attempts + 1 = budget then .pollFail else s.outcome }

/-- `retire_ok(tx, rdata)` by the kind of the operation (R165). -/
def State.retireOk (o : Operation) (rdata : Word) (s : State) : State :=
  match o.kind with
  | .write => s.retireWrite
  | .read => s.retireRead rdata o.rbytes
  | .poll => s.retirePoll rdata o.budget

/-! ### The actions of an operation -/

/-- The decode cycle (R154): the operation is recorded and `Executing` follows. -/
def State.enterExecuting (o : Operation) (s : State) : State :=
  { s with op := some o, seq := .executing }

/-- `Executing` with a transaction outstanding (R155): wait for `ready`; retire; a bus error is fatal at once (R265).
`err` and `rdata` are looked at in the retire cycle only (R213). -/
def State.onBus (o : Operation) (bus : BusResp) (s : State) : State :=
  if bus.ready then
    if bus.err then s.fail .busFault else s.retireOk o bus.rdata
  else s

/-- `Executing` with no transaction outstanding (R156): the first that applies of waiting for `data-last` or leaving for
`Completing`, consuming operand bytes, and issuing. -/
def State.offBus (o : Operation) (s : State) : State :=
  if opDone o s then
    if s.lastSeen then { s with seq := .completing } else s
  else if s.opnd.length < opNeed o then s.popOpnd (pulseSize s s.opnd.length (opNeed o))
  else s.issue o

/-- The action of `Executing` for the operation `o` (R155, R156). -/
def State.execute (o : Operation) (s : State) : State :=
  match s.txn with
  | some _ => s.onBus o s.busIn
  | none => s.offBus o

/-- Entry to `PollFailed` (R157, R266). -/
def State.enterPollFailed (s : State) : State :=
  { s.clearRun with seq := .pollFailed, resid := some .pollExhausted }

/-- Entry to `Completed` (R157). -/
def State.enterCompleted (s : State) : State := { s.clearRun with seq := .completed }

/-- The action of `Completing` (R157). It looks at the `rbuf` of the start of the cycle. -/
def State.complete (s : State) : State :=
  if s.rbuf = [] then
    match s.outcome with
    | .pollFail => s.enterPollFailed
    | .ok => s.enterCompleted
  else s

/-- What the Sequencer does for the operation `o` in one cycle: the decode cycle in `AwaitingAddress` (R154), the bus
traffic in `Executing` (R155, R156), the end in `Completing` (R157). Outside a run no operation acts (log 12). -/
def State.operate (o : Operation) (s : State) : State :=
  match s.seq with
  | .awaitingAddress => s.enterExecuting o
  | .executing => s.execute o
  | .completing => s.complete
  | .idle => s
  | .completed => s
  | .pollFailed => s
  | .errored => s

/-! ### The end of a step -/

/-- The sufficiency check (R132). After a `raise` it does nothing, because `Errored` is not running. -/
def State.checkSufficient (hdrLen : Nat) (s : State) : State :=
  if insufficient hdrLen s then s.fail .incompleteOperation else s

/-- The result drain (R160) of `n` bytes. It is applied last, which is the same as first: it takes from the head what was
there at the start of the cycle (log 9). -/
def State.drain (n : Nat) (s : State) : State := { s with rbuf := s.rbuf.drop n }

/-- Step 5 of R161: the two cooldown bits. -/
def State.setCooldowns (consumed rvalid : Nat) (s : State) : State :=
  { s with cool := decide (0 < consumed), rcool := decide (0 < rvalid) }

/-- The cycle is over (R9): its inputs are used up and the cycle number grows by one. -/
def State.advanceTime (s : State) : State := { s with inputs := s.inputs.tail, now := s.now + 1 }

/-! ### The front ends -/

/-- The command word the front end presents in this cycle, if any (R120): `req.payload` when `req.valid` in the stream-fed
instance (R227), the held word in the autonomous one (R241 to R243). -/
def State.presented (s : State) : Option CmdWord :=
  match s.frontEnd with
  | .stream => if s.reqIn.valid then some s.reqIn.payload else none
  | .autonomous =>
    match s.fstate with
    | .held w => some w
    | .pending _ => none
    | .noFetch => none

/-- The command word accepted in this cycle, if any (R120, R152, R226, R243). -/
def State.accepted (s : State) : Option CmdWord :=
  if s.canAccept then s.presented else none

/-- `fstate` of the next cycle (R241, R242, R243). The stream-fed instance has none and keeps the field (log 13). -/
def State.nextFetch (s : State) : FetchState :=
  match s.frontEnd with
  | .stream => s.fstate
  | .autonomous =>
    match s.fstate with
    | .noFetch => if s.canAccept then .pending s.params.fetchLatency else .noFetch
    | .pending k => if 1 < k then .pending (k - 1) else .held (Memory.read s.store s.ip.toNat)
    | .held w => if s.canAccept then .noFetch else .held w

/-- `ip` of the next cycle: advanced by one, modulo 2^16, in the cycle a word is captured, and never otherwise (R242,
R244). The stream-fed instance has none and keeps the field (log 13). -/
def State.nextIp (s : State) : StoreAddr :=
  match s.frontEnd with
  | .stream => s.ip
  | .autonomous =>
    match s.fstate with
    | .noFetch => s.ip
    | .pending k => if 1 < k then s.ip else s.ip + 1#16
    | .held _ => s.ip

/-- The front end's own registers written for the next cycle. -/
def State.setFetch (ip : StoreAddr) (f : FetchState) (s : State) : State := { s with ip := ip, fstate := f }

end Sys2Proof.Machine
end

