-- ==== Sys2Proof/Machine/Commands.lean ====
section
/-! DEFINITION. The meanings of the five Script Opcodes and of the three illegal opcode values: what an accepted command
writes (R121 to R128, R135, R136). The state given is the one the Sequencer's own action of the cycle has left (R120,
R161; log 8). -/

namespace Sys2Proof.Machine

/-- `START` and `STARTCLR` share this: inside a run an `IncompleteOperation` that opens no new run (R135), outside a run
`opened`. -/
def startCommand (opened : State) (s : State) : Result :=
  if s.running then .next (s.fail .incompleteOperation) else .next opened

/-- `DATA` and `DATALAST` share this, in the order of R121: count 7 is `InvalidByteCount` (R128), a payload command
outside a run is `IncompleteOperation` (R136), and otherwise `taken`. -/
def payloadCommand (count : BitVec 3) (taken : State) (s : State) : Result :=
  if count = 7#3 then .next (s.fail .invalidByteCount)
  else if s.running then .next taken
  else .next (s.fail .incompleteOperation)

/-- An illegal opcode value, whatever count and data hold (R127). -/
def illegalCommand (s : State) : Result := .next (s.fail .malformedOpcode)

/-- `IDLE` (R122): nothing; count and data are ignored. -/
def execIdle (_count : BitVec 3) (_data : BitVec 48) (s : State) : Result := .next s

/-- `START` (R123): count and data are ignored; `resid` is not written when a run opens. -/
def execStart (_count : BitVec 3) (_data : BitVec 48) (s : State) : Result :=
  startCommand s.openRun s

/-- `STARTCLR` (R124): as `START`, and a run that opens clears `resid`. -/
def execStartclr (_count : BitVec 3) (_data : BitVec 48) (s : State) : Result :=
  startCommand { s.openRun with resid := none } s

/-- `DATA` (R125). -/
def execData (count : BitVec 3) (data : BitVec 48) (s : State) : Result :=
  payloadCommand count (s.append count data) s

/-- `DATALAST` (R126): the bytes are appended and `last_seen` is set; the sufficiency check R126 names runs at the end of
the step, as R132 says (`State.checkSufficient`, `coreCycle`). -/
def execDatalast (count : BitVec 3) (data : BitVec 48) (s : State) : Result :=
  payloadCommand count { s.append count data with lastSeen := true } s

/-- Opcode value 5 (R127). -/
def execIllegal5 (_count : BitVec 3) (_data : BitVec 48) (s : State) : Result := illegalCommand s

/-- Opcode value 6 (R127). -/
def execIllegal6 (_count : BitVec 3) (_data : BitVec 48) (s : State) : Result := illegalCommand s

/-- Opcode value 7 (R127). -/
def execIllegal7 (_count : BitVec 3) (_data : BitVec 48) (s : State) : Result := illegalCommand s

end Sys2Proof.Machine
end

