-- ==== Sys2Proof/Machine/Operations.lean ====
section
/-! DEFINITION. The meanings of the four operations a header selects under `HL_DEFAULT` (R191, R193 to R196): what the
Sequencer does for the operation in one cycle, whatever point of its life the state is at (R154 to R157). -/

namespace Sys2Proof.Machine

/-- `RD` (R193): one read of `addr`; its four bytes go to `rbuf`. -/
def execRd (addr : Word) (s : State) : Result := .next (s.operate (rdOperation addr))

/-- `WZ` (R194): one write of zero at `addr`. -/
def execWz (addr : Word) (s : State) : Result := .next (s.operate (wzOperation addr))

/-- `POLL` (R195): reads of `addr` until the value/mask condition holds or the engine's budget is used up. -/
def execPoll (addr : Word) (s : State) : Result :=
  .next (s.operate (pollOperation addr s.params.pollBudget))

/-- `WR` (R196): one write of the four operand bytes at `addr`. -/
def execWr (addr : Word) (s : State) : Result := .next (s.operate (wrOperation addr))

end Sys2Proof.Machine
end

