-- ==== Sys2Proof/Machine/Dispatch.lean ====
section
/-! DEFINITION. One arm per row of the opcode table. -/

namespace Sys2Proof.Machine

def exec (i : Instr) (s : State) : Host.Outcome State Fault Refusal :=
  match i with
  | .idle count data => Sys2Proof.Machine.execIdle count data s
  | .start count data => Sys2Proof.Machine.execStart count data s
  | .startclr count data => Sys2Proof.Machine.execStartclr count data s
  | .data count data => Sys2Proof.Machine.execData count data s
  | .datalast count data => Sys2Proof.Machine.execDatalast count data s
  | .illegal5 count data => Sys2Proof.Machine.execIllegal5 count data s
  | .illegal6 count data => Sys2Proof.Machine.execIllegal6 count data s
  | .illegal7 count data => Sys2Proof.Machine.execIllegal7 count data s
  | .rd addr => Sys2Proof.Machine.execRd addr s
  | .wz addr => Sys2Proof.Machine.execWz addr s
  | .poll addr => Sys2Proof.Machine.execPoll addr s
  | .wr addr => Sys2Proof.Machine.execWr addr s

end Sys2Proof.Machine
end

