-- ==== Sys2Proof/Machine/Outputs.lean ====
section
/-! DEFINITION. The outputs of a cycle, all functions of the state at its start, the acknowledge of the inputs as well
(R39, R150): the response object (R44, R107), the bus wires of the Codec (R211, R214) and its decoding of the answer
(R213), the acknowledge object (R226, R228), the command-store request (R241), and the numeric codes (R98, R99). -/

namespace Sys2Proof.Machine

/-- The response status (R98). -/
inductive Status where
  | idle
  | running
  | completed
  | pollFailed
  | errored
deriving DecidableEq, Repr

/-- The code of a status (R98). -/
def Status.code : Status → BitVec 3
  | .idle => 0#3
  | .running => 1#3
  | .completed => 2#3
  | .pollFailed => 3#3
  | .errored => 4#3

/-- The code of a value of `resid` (R99). -/
def residCode : Option Cause → Nat
  | none => 0
  | some .malformedOpcode => 1
  | some .invalidByteCount => 2
  | some .incompleteOperation => 3
  | some .busFault => 4
  | some .pollExhausted => 5

/-- `out.status` (R151). -/
def State.status (s : State) : Status :=
  match s.seq with
  | .idle => .idle
  | .awaitingAddress => .running
  | .executing => .running
  | .completing => .running
  | .completed => .completed
  | .pollFailed => .pollFailed
  | .errored => .errored

/-- `out.consumed` (R159). -/
def State.consumed (s : State) : Nat := consumedOf Config.hdrLen s

/-- `out.rdata` (R160): the oldest byte in bits 7:0, and 0 when there is no result pulse. -/
def State.rdata (s : State) : Word := leWord (s.rbuf.take s.rvalid)

/-- The response object (R44, R107). -/
structure Response where
  status : Status
  consumed : Nat
  rvalid : Nat
  rdata : Word
deriving DecidableEq, Repr

/-- The response object of this cycle (R44). -/
def State.response (s : State) : Response :=
  { status := s.status, consumed := s.consumed, rvalid := s.rvalid, rdata := s.rdata }

/-- The bus request wires (R43, R211). -/
structure BusReq where
  addr : Word
  enable : Bool
  select : Bool
  write : Bool
  wdata : Word
deriving DecidableEq, Repr

/-- The Codec's encoding of the outstanding transaction, and the idle wires (R211, R214). -/
def State.busReq (s : State) : BusReq :=
  match s.txn with
  | some tx => { addr := tx.addr, enable := true, select := true, write := tx.write, wdata := tx.wdata }
  | none => { addr := 0#32, enable := false, select := false, write := false, wdata := 0#32 }

/-- The internal result value of the Codec (R210). -/
structure BusResult where
  completed : Bool
  error : Bool
  rdata : Word
deriving DecidableEq, Repr

/-- The Codec's decoding of the bus response (R213): `done = select and ready`, `error = done and err`. -/
def State.busResult (s : State) : BusResult :=
  { completed := s.busReq.select && s.busIn.ready,
    error := s.busReq.select && s.busIn.ready && s.busIn.err,
    rdata := s.busIn.rdata }

/-- The acknowledge object of the stream-fed instance (R42, R108). -/
structure Ack where
  acknowledge : Bool
  storeBusy : Bool
deriving DecidableEq, Repr

/-- The acknowledge object of this cycle; none in the autonomous instance (R226, R228, R249). -/
def State.ack (s : State) : Option Ack :=
  match s.frontEnd with
  | .stream => some { acknowledge := s.reqIn.valid && s.canAccept, storeBusy := false }
  | .autonomous => none

/-- The command-store request (R45). -/
structure StoreReq where
  read : Bool
  addr : StoreAddr
deriving DecidableEq, Repr

/-- The command-store request of this cycle; none in the stream-fed instance (R45). `NoFetch` drives both fields (R241).
While a fetch is pending or a word is held the rules give `read = 0` and no address (R242, R243): the address is a free
value there (DESIGN CHOICE, log 19). -/
def State.storeReq (s : State) : Option StoreReq :=
  match s.frontEnd with
  | .stream => none
  | .autonomous =>
    match s.fstate with
    | .noFetch => some { read := s.canAccept, addr := s.ip }
    | .pending _ => some { read := false, addr := Config.freeStoreAddr s.now }
    | .held _ => some { read := false, addr := Config.freeStoreAddr s.now }

/-- `fetch_busy(s)` (R249). -/
def State.fetchBusy (s : State) : Bool :=
  match s.fstate with
  | .pending _ => true
  | .noFetch => false
  | .held _ => false

end Sys2Proof.Machine
end

