-- ==== Sys2Proof/Machine/Cycle.lean ====
section
/-! DEFINITION. One cycle of the engine core (R150, R161), over any header layout: the Sequencer's action (R153 to R158),
the accepted command (R121), the sufficiency check (R132); and the end of the cycle: the result drain, the cooldowns, the
front end's registers and the passing of time. -/

namespace Sys2Proof.Machine

/-- The Sequencer's own action of the cycle (R153 to R158). `decodeCycle` is what happens in `AwaitingAddress` once the
header has its `hdrLen` bytes. -/
def sequencer (hdrLen : Nat) (decodeCycle : State → Result) (s : State) : Result :=
  match s.seq with
  | .idle => .next s
  | .awaitingAddress =>
    if s.hdr.length = hdrLen then decodeCycle s
    else .next (s.popHdr (pulseSize s s.hdr.length hdrLen))
  | .executing =>
    match s.op with
    | some o => .next (s.operate o)
    | none => .fault .noOperation
  | .completing => .next s.complete
  | .completed => .next s.returnToIdle
  | .pollFailed => .next s.returnToIdle
  | .errored => .next s.returnToIdle

/-- The accepted command, if any, acts on what the Sequencer left (R120, R161 step 3). -/
def commandAction (cmd : Option Instr) (s : State) : Result :=
  match cmd with
  | some i => exec i s
  | none => .next s

/-- Steps 2 to 4 of R161. -/
def coreCycle (hdrLen : Nat) (decodeCycle : State → Result) (cmd : Option Instr) (s : State) : Result :=
  andThen (andThen (sequencer hdrLen decodeCycle s) (commandAction cmd)) fun t =>
    .next (t.checkSufficient hdrLen)

/-- Steps 1 and 5 of R161, the front end (R241 to R243), and the passing of time (R9): `s` is the state at the start of
the cycle, `t` what the core cycle wrote. -/
def endCycle (hdrLen : Nat) (s t : State) : State :=
  (((t.drain s.rvalid).setCooldowns (consumedOf hdrLen s) s.rvalid).setFetch s.nextIp s.nextFetch).advanceTime

/-- A whole cycle with the given header length and decode cycle. -/
def cycle (hdrLen : Nat) (decodeCycle : State → Result) (s : State) : Result :=
  andThen (coreCycle hdrLen decodeCycle (s.accepted.map decodeCmd) s) fun t =>
    .next (endCycle hdrLen s t)

/-- The decode cycle of the instruction the header holds under `HL_DEFAULT` (R154, R191): it runs that instruction. -/
def runHeader (s : State) : Result := exec (decodeHdr (leWord s.hdr)) s

/-- The decode cycle of a header layout (R154, R190). -/
def decodeWith (L : Config.HeaderLayout) (s : State) : Result :=
  .next (s.operate (L.decodeHeader s.hdr))

/-- A whole cycle of an engine with the header layout `L` (R190, R197). -/
def cycleOf (L : Config.HeaderLayout) (s : State) : Result := cycle L.hdrLen (decodeWith L) s

end Sys2Proof.Machine
end

