-- ==== Sys2Proof/Machine/Step.lean ====
section
/-! DEFINITION. The step of the machine: one cycle under `HL_DEFAULT` (R9, R191); and where the host's question finds the
instruction it asks about. -/

namespace Sys2Proof.Machine

/-- One cycle of the engine (R9, R150, R161). -/
def step (s : State) : Host.Outcome State Fault Refusal := cycle Config.hdrLen runHeader s

/-- `s`, with no run open if it could not accept a command. -/
def State.accepting (s : State) : State :=
  if s.canAccept then s else { s.clearRun with seq := .idle }

/-- `s` with the word `w` presented in this cycle by its front end (R227, R243), and able to accept it. -/
def State.withCommand (s : State) (w : CmdWord) : State :=
  match s.frontEnd with
  | .autonomous => { s.accepting with fstate := .held w }
  | .stream =>
    { s.accepting with
      inputs := { bus := s.busIn, req := { valid := true, payload := w } } :: s.inputs.tail }

/-- `s` with no command presented in this cycle. -/
def State.withoutCommand (s : State) : State :=
  match s.frontEnd with
  | .autonomous => { s with fstate := .noFetch }
  | .stream =>
    { s with
      inputs := { bus := s.busIn, req := { valid := false, payload := 0#54 } } :: s.inputs.tail }

/-- `s` in a run whose header is the bytes `l`, complete and not yet decoded (R154), with no command presented. -/
def State.withHeader (s : State) (l : List Byte) : State :=
  { s.withoutCommand.openRun with hdr := l, acc := l.length }

/-- `s` with the instruction of a table row placed where the next step runs it (log 6): a command word where the front
end presents it, a header word as the complete header of an open run. -/
def State.withFetchWord (s : State) (nbits w : Nat) : State :=
  if tableBytes nbits = 4 then s.withHeader (bytesLE w 4) else s.withCommand (BitVec.ofNat 54 w)

/-- `s` with the words of a script written into the command store from address `a` on, before cycle 0 (R292; log 6). -/
def State.load (s : State) (a : StoreAddr) : List CmdWord → State
  | [] => s
  | w :: ws => State.load { s with store := Memory.write s.store a w } (a + 1#16) ws

end Sys2Proof.Machine
end

