-- ==== Sys2Proof/Machine/Script.lean ====
section
/-! DEFINITION. Scripts as lists of commands: the grammar of a well-formed script (R105), the assembler's commands (R103)
and the four pseudo-instructions with their `c.` forms (R104). -/

namespace Sys2Proof.Machine

/-- Where a reader of a script is in the grammar of R105. -/
inductive ScriptPlace where
  /-- before the start command of a run: `idle*` -/
  | beforeStart
  /-- after the start command: `(idle*data)* idle*` -/
  | insideRun
  /-- after `data-last`: at least one `idle` must come -/
  | needsIdle
  /-- after `data-last idle`: more `idle`, or the next run -/
  | afterRun
deriving DecidableEq, Repr

/-- One command of the grammar `idle* (start|start-and-clear) (idle*data)* idle* data-last idle+`; none where the grammar
has no such command. An illegal command (R100) and an operation are in no script. -/
def ScriptPlace.next : ScriptPlace → Instr → Option ScriptPlace
  | .beforeStart, .idle _ _ => some .beforeStart
  | .beforeStart, .start _ _ => some .insideRun
  | .beforeStart, .startclr _ _ => some .insideRun
  | .insideRun, .idle _ _ => some .insideRun
  | .insideRun, .data c d => if (Instr.data c d).legal then some .insideRun else none
  | .insideRun, .datalast c d => if (Instr.datalast c d).legal then some .needsIdle else none
  | .needsIdle, .idle _ _ => some .afterRun
  | .afterRun, .idle _ _ => some .afterRun
  | .afterRun, .start _ _ => some .insideRun
  | .afterRun, .startclr _ _ => some .insideRun
  | _, _ => none

/-- Where a script leads from a place; none where it leaves the grammar. -/
def ScriptPlace.run : ScriptPlace → List Instr → Option ScriptPlace
  | p, [] => some p
  | p, i :: is =>
    match p.next i with
    | some p' => ScriptPlace.run p' is
    | none => none

/-- A sequence of one or more runs, each a match of the expression of R105. -/
def scriptMatches (is : List Instr) : Bool := ScriptPlace.run .beforeStart is == some .afterRun

/-- `data(count=N, ...)` with at most six bytes; ignored bytes are zero (R93, R103). -/
def dataCommand (l : List Byte) : Instr := .data (BitVec.ofNat 3 l.length) (BitVec.ofNat 48 (leNat l))

/-- `data-last(count=N, ...)` with at most six bytes; ignored bytes are zero (R93, R103). -/
def dataLastCommand (l : List Byte) : Instr :=
  .datalast (BitVec.ofNat 3 l.length) (BitVec.ofNat 48 (leNat l))

/-- `idle` (R103). -/
def idleCommand : Instr := .idle 0#3 0#48

/-- `start`, or `start-and-clear` for the `c.` forms (R103, R104). -/
def startFor (clear : Bool) : Instr := if clear then .startclr 0#3 0#48 else .start 0#3 0#48

/-- `h(A, k)`: the four bytes `bytes_LE(A + k, 4)` (R104). -/
def headerBytes (addr : Word) (k : Nat) : List Byte := bytesLE (addr + BitVec.ofNat 32 k).toNat 4

/-- `rd A` and `c.rd A` (R104). -/
def pseudoRd (clear : Bool) (addr : Word) : List Instr :=
  [startFor clear, dataLastCommand (headerBytes addr 0), idleCommand]

/-- `wz A` and `c.wz A` (R104). -/
def pseudoWz (clear : Bool) (addr : Word) : List Instr :=
  [startFor clear, dataLastCommand (headerBytes addr 1), idleCommand]

/-- `wr A, V` and `c.wr A, V` (R104). -/
def pseudoWr (clear : Bool) (addr value : Word) : List Instr :=
  let v := bytesLE value.toNat 4
  [startFor clear, dataCommand (headerBytes addr 3 ++ v.take 2), dataLastCommand (v.drop 2), idleCommand]

/-- `poll A, M, V` and `c.poll A, M, V` (R104). -/
def pseudoPoll (clear : Bool) (addr mask value : Word) : List Instr :=
  let m := bytesLE mask.toNat 4
  [startFor clear, dataCommand (headerBytes addr 2 ++ m.take 2),
    dataCommand (m.drop 2 ++ bytesLE value.toNat 4), dataLastCommand [], idleCommand]

end Sys2Proof.Machine
end

