-- ==== Sys2Proof/Safety.lean ====
section
/-! DEFINITION. The terms claims are stated in: the invariants of R50 made inductive, the changes of `seq` of R162, the
end of a run (R17), and runs of several cycles. -/

namespace Sys2Proof

open Machine

/-- A Script Run has ended: the first cycle whose start state is terminal shows its outcome (R17). -/
def RunEnded (s : State) : Prop := s.terminal = true

/-- Every field `clear_run()` writes holds its cleared value (R50 (b)). -/
def Cleared (s : State) : Prop := s.clearRun = s

/-- What holds of the operation `o` a run works on (R50 (c), (e), R23, R25, R31, R35, R155). -/
structure OperationInv (L : Config.HeaderLayout) (o : Operation) (s : State) : Prop where
  /-- the record is the one the consumed header decodes to (R27, R154) -/
  decoded : s.hdr.length = L.hdrLen ∧ o = L.decodeHeader s.hdr
  /-- R50 (c) -/
  groupBounded : s.opnd.length ≤ o.opndLen
  /-- R50 (e), R28 -/
  transBounded : s.transDone ≤ o.ntrans
  /-- R50 (e), R29 -/
  attemptsBounded : s.attempts ≤ o.budget
  /-- a poll returns no result bytes and counts attempts, not transactions (R165) -/
  ofPoll : o.kind = .poll → s.transDone = 0 ∧ s.rbuf = []
  /-- reads and writes count transactions, not attempts (R165) -/
  ofOther : o.kind ≠ .poll → s.attempts = 0 ∧ s.pollMet = false ∧ s.outcome = .ok
  /-- a write returns no result bytes (R194, R196) -/
  ofWrite : o.kind = .write → s.rbuf = []
  /-- R35 -/
  resultsBounded : s.rbuf.length ≤ o.rbytes * s.transDone
  /-- `PollFail` means exactly that the budget was used up without the condition (R31, R266) -/
  pollOutcome : o.kind = .poll → (s.outcome = .pollFail ↔ s.pollMet = false ∧ s.attempts = o.budget)
  /-- the outstanding transaction is the operation's, issued with its operand group complete and work left (R156, R164) -/
  outstanding : ∀ tx, s.txn = some tx → tx = issuedTxn o s ∧ opDone o s = false ∧ s.opnd.length = o.opndLen
  /-- `Completing` comes after the last transaction (R156) -/
  finished : s.seq = .completing → opDone o s = true

/-- The invariants of R50 with what it takes to keep them, for an engine with the header layout `L`. -/
structure Inv (L : Config.HeaderLayout) (s : State) : Prop where
  /-- `L >= 1`, `N >= 1` (R8) -/
  params : 1 ≤ s.params.fetchLatency ∧ 1 ≤ s.params.pollBudget
  /-- the command store is in canonical form -/
  store : Memory.wf s.store = true
  /-- R41 -/
  fetchCount : ∀ k, s.fstate = .pending k → 1 ≤ k ∧ k ≤ s.params.fetchLatency
  /-- R50 (a) -/
  txnExecuting : s.txn ≠ none → s.seq = .executing
  /-- R50 (b) -/
  clearedOutsideRun : s.running = false → Cleared s
  /-- R50 (c) -/
  hdrBounded : s.hdr.length ≤ L.hdrLen
  /-- nothing of an operation is there before the header is decoded (R27, R154) -/
  awaiting : s.seq = .awaitingAddress →
    s.op = none ∧ s.opnd = [] ∧ s.transDone = 0 ∧ s.attempts = 0 ∧ s.pollMet = false ∧ s.outcome = .ok ∧ s.rbuf = []
  /-- an operation is there once the header is decoded -/
  working : s.seq = .executing ∨ s.seq = .completing → ∃ o, s.op = some o ∧ OperationInv L o s
  /-- R50 (d) -/
  completingLast : s.seq = .completing → s.lastSeen = true
  /-- every accumulated byte is in the queue, in a group, or was used by a retired transaction (R23, R95) -/
  bytesConserved : s.acc = s.hdr.length + s.q.length + s.opnd.length +
    (match s.op with | some o => s.transDone * o.opndLen | none => 0)
  /-- after `data-last` a run that goes on has all the payload it needs (R132) -/
  sufficient : insufficient L.hdrLen s = false

/-- The invariant of the machine itself, whose layout is `HL_DEFAULT` with its own budget (R191). -/
def MachineInv (s : State) : Prop := Inv (hlDefault s.params.pollBudget) s

/-- The command accepted in this cycle (R120). -/
def acceptedCommand (s : State) : Option Instr := s.accepted.map decodeCmd

/-- The command opens a run when it is accepted outside one (R123, R124). -/
def isStart : Instr → Bool
  | .start _ _ => true
  | .startclr _ _ => true
  | _ => false

/-- The command carries payload (R125, R126). -/
def isPayload : Instr → Bool
  | .data _ _ => true
  | .datalast _ _ => true
  | _ => false

/-- `acc` with the valid bytes of the payload command accepted in this cycle, if one is (R23, R129). -/
def accAfterAccept (s : State) : Nat :=
  s.acc +
    match acceptedCommand s with
    | some (.data c _) => c.toNat
    | some (.datalast c _) => c.toNat
    | _ => 0

/-- `data-last` has been accepted in this run or is accepted in this cycle (R26, R132). -/
def EndMarked (s : State) : Prop := s.lastSeen = true ∨ ∃ c d, acceptedCommand s = some (.datalast c d)

/-- The operation of the run as known at the end of this cycle: in the decode cycle the one the header decodes to (R154,
R191), and otherwise the recorded one. -/
def knownOperation (s : State) : Option Operation :=
  if s.seq = .awaitingAddress ∧ s.hdr.length = Config.hdrLen then
    some (decodeHeaderDefault s.params.pollBudget s.hdr)
  else s.op

/-- The event of the sufficiency check (R132), read off the start of the cycle and the accepted command: the end is marked,
and the payload is short of the header or of what the known operation requires. -/
def ShortOfPayload (s : State) : Prop :=
  EndMarked s ∧
  (accAfterAccept s < Config.hdrLen ∨
    ∃ o, knownOperation s = some o ∧ accAfterAccept s < required Config.hdrLen o)

/-- The rows of the table of R162: the changes of `seq` from the start of a cycle in `s` to its end in `t`, each under its
event. -/
inductive SeqArc (s t : State) : Prop where
  | opens (h : s.running = false) (c : ∃ i, acceptedCommand s = some i ∧ isStart i = true)
      (dest : t.seq = .awaitingAddress)
  | returns (h : s.terminal = true)
      (c : ∀ i, acceptedCommand s = some i → isStart i = false ∧ i.legal = true ∧ isPayload i = false)
      (dest : t.seq = .idle)
  | decodes (h : s.seq = .awaitingAddress) (c : s.hdr.length = Config.hdrLen) (dest : t.seq = .executing)
  | finishes (h : s.seq = .executing) (n : s.txn = none) (c : ∃ o, s.op = some o ∧ opDone o s = true)
      (l : s.lastSeen = true) (dest : t.seq = .completing)
  | completes (h : s.seq = .completing) (c : s.rbuf = []) (o : s.outcome = .ok) (dest : t.seq = .completed)
  | pollFails (h : s.seq = .completing) (c : s.rbuf = []) (o : s.outcome = .pollFail) (dest : t.seq = .pollFailed)
  | busFaults (h : s.seq = .executing) (n : s.txn ≠ none) (r : s.busIn.ready = true) (e : s.busIn.err = true)
      (dest : t.seq = .errored)
  | illegal (h : s.canAccept = true) (c : ∃ i, acceptedCommand s = some i ∧ i.legal = false) (dest : t.seq = .errored)
  | restarts (h : s.seq = .awaitingAddress ∨ s.seq = .executing)
      (c : ∃ i, acceptedCommand s = some i ∧ isStart i = true) (dest : t.seq = .errored)
  | strayPayload (h : s.running = false) (c : ∃ i, acceptedCommand s = some i ∧ isPayload i = true)
      (dest : t.seq = .errored)
  | tooShort (h : s.seq = .awaitingAddress ∨ s.seq = .executing) (c : ShortOfPayload s)
      (cause : t.resid = some .incompleteOperation) (dest : t.seq = .errored)

/-- The Sequencer's own action of the cycle, under `HL_DEFAULT` (R161 step 2). -/
def sequencerAction (s : State) : Result := sequencer Config.hdrLen runHeader s

/-- What a step adds after the instructions of a cycle that began in `s` (R161 steps 1, 4 and 5, R241 to R243, R9). -/
def finishCycle (s t : State) : Result := .next (endCycle Config.hdrLen s (t.checkSufficient Config.hdrLen))

/-- The cycle that begins in `s` runs the operation instruction `i`: it is the Sequencer's own action, and the step is that
action, then the accepted command if there is one, and the end of the cycle (R161). -/
def RunsOperation (s : State) (i : Instr) : Prop :=
  sequencerAction s = exec i s ∧
  (s.accepted = none → step s = andThen (exec i s) (finishCycle s)) ∧
  ∀ w, s.accepted = some w → step s = andThen (andThen (exec i s) (exec (decodeCmd w))) (finishCycle s)

/-- `n` cycles from `s`, none of which stops, end in `t`. -/
def StepsTo (n : Nat) (s t : State) : Prop := Host.Core.run core n s = .next t

end Sys2Proof
end

