-- ==== Sys2Proof/Certificates/Slice0/Obligations.lean ====
section
/-! DEFINITION. The statements for the provers. "D<n>" is a decision of spec/92_eei_decisions.md, the spec's own choice where
its source is silent; "log <n>" is a row of notes/assumptions. -/

open Sys2Proof Sys2Proof.Machine

/-! ### Reset and the step as a whole -/

/-- R48, R290 (the spec's decision D31): every field of the spec after reset, in both instances, and the outputs of
cycle 0. -/
def Obligations.ResetStateHoldsTheTable : Prop :=
  ∀ s : State, s = State.reset ∨ s = State.resetOf .stream →
    s.seq = .idle ∧ s.q = [] ∧ s.acc = 0 ∧ s.hdr = [] ∧ s.opnd = [] ∧ s.lastSeen = false ∧ s.op = none ∧
    s.transDone = 0 ∧ s.attempts = 0 ∧ s.pollMet = false ∧ s.outcome = .ok ∧ s.txn = none ∧ s.cool = false ∧
    s.rcool = false ∧ s.rbuf = [] ∧ s.resid = none ∧ s.ip = 0#16 ∧ s.fstate = .noFetch ∧
    s.response = { status := .idle, consumed := 0, rvalid := 0, rdata := 0#32 } ∧
    s.busReq = { addr := 0#32, enable := false, select := false, write := false, wdata := 0#32 }

/-- The invariant of the machine holds after reset, in both instances. -/
def Obligations.ResetSatisfiesInvariant : Prop :=
  MachineInv State.reset ∧ MachineInv (State.resetOf .stream)

/-- A step runs the command it accepts: on what the Sequencer's own action left, and then the end of the cycle (R161,
decisions D16 and D27; log 8). Every 54-bit word decodes to a well-formed instruction. -/
def Obligations.StepRunsAcceptedCommand : Prop :=
  ∀ (s : State) (w : CmdWord), s.accepted = some w →
    (decodeCmd w).wellFormed = true ∧
    step s = andThen (andThen (sequencerAction s) (exec (decodeCmd w))) (finishCycle s)

/-- A step runs the instruction of the run: in the decode cycle the one the complete header decodes to (R154), and in every
later cycle the one whose operation the run works on (R155 to R157). It is the Sequencer's own action of the cycle, at the
start-of-cycle state; the accepted command, if there is one, and the end of the cycle come after it (R161; log 8). -/
def Obligations.StepRunsInstructionOfHeader : Prop :=
  (∀ s : State, s.seq = .awaitingAddress → s.hdr.length = 4 →
    (decodeHdr (leWord s.hdr)).wellFormed = true ∧ RunsOperation s (decodeHdr (leWord s.hdr))) ∧
  (∀ (s : State) (a : Word), s.seq = .executing ∨ s.seq = .completing →
    (s.op = some (rdOperation a) → RunsOperation s (.rd a)) ∧
    (s.op = some (wzOperation a) → RunsOperation s (.wz a)) ∧
    (s.op = some (wrOperation a) → RunsOperation s (.wr a)) ∧
    (s.op = some (pollOperation a s.params.pollBudget) → RunsOperation s (.poll a)))

/-- The placing of an instruction for the next step (log 6): a command word is the one the next step accepts, and four
header bytes are the complete header the next step decodes. -/
def Obligations.PlacedInstructionIsRunNext : Prop :=
  (∀ (s : State) (w : CmdWord), (s.withFetchWord 56 w.toNat).accepted = some w) ∧
  (∀ (s : State) (h : Word),
    (s.withFetchWord 32 h.toNat).accepted = none ∧ (s.withFetchWord 32 h.toNat).seq = .awaitingAddress ∧
    (s.withFetchWord 32 h.toNat).hdr.length = 4 ∧ leWord (s.withFetchWord 32 h.toNat).hdr = h)

/-- R161, R120 and log 8: the Sequencer's own action never changes whether a run is open in a cycle that accepts a
command, so a command that reads `running` after it reads the start-of-cycle value. -/
def Obligations.AcceptedCommandSeesStartOfCycle : Prop :=
  ∀ s t : State, s.canAccept = true → sequencerAction s = .next t →
    t.running = s.running ∧ t.acc = s.acc ∧ t.resid = s.resid ∧ t.lastSeen = s.lastSeen

/-! ### Encodings -/

/-- Decoding the bytes of a well-formed instruction gives the instruction back. -/
def Obligations.DecodeOfEncodeIsIdentity : Prop :=
  ∀ i : Instr, i.wellFormed = true → decode (encode i) = .ok i

/-- Every command word and every header word is the encoding of what it decodes to: no bit is dropped. -/
def Obligations.EncodeOfDecodeIsIdentity : Prop :=
  (∀ w : CmdWord, encodeNat (decodeCmd w) = w.toNat ∧ encodeCmdWord (decodeCmd w) = some w) ∧
  (∀ h : Word, encodeNat (decodeHdr h) = h.toNat)

/-- R106 (decisions D2, D3, D7): each row's `match` under its `mask` selects the row's instruction, with the operands from the fields the
row names. -/
def Obligations.TableRowsSelectInstructions : Prop :=
  (∀ w : CmdWord,
    let c := w.extractLsb' 48 3
    let d := w.extractLsb' 0 48
    let m := w &&& 0x38000000000000#54
    (m = 0x00000000000000#54 → decodeTableWord 56 w.toNat = some (.idle c d)) ∧
    (m = 0x08000000000000#54 → decodeTableWord 56 w.toNat = some (.start c d)) ∧
    (m = 0x10000000000000#54 → decodeTableWord 56 w.toNat = some (.startclr c d)) ∧
    (m = 0x18000000000000#54 → decodeTableWord 56 w.toNat = some (.data c d)) ∧
    (m = 0x20000000000000#54 → decodeTableWord 56 w.toNat = some (.datalast c d)) ∧
    (m = 0x28000000000000#54 → decodeTableWord 56 w.toNat = some (.illegal5 c d)) ∧
    (m = 0x30000000000000#54 → decodeTableWord 56 w.toNat = some (.illegal6 c d)) ∧
    (m = 0x38000000000000#54 → decodeTableWord 56 w.toNat = some (.illegal7 c d))) ∧
  (∀ h : Word,
    let a := h &&& 0xFFFFFFFC#32
    let m := h &&& 0x00000003#32
    (m = 0#32 → decodeTableWord 32 h.toNat = some (.rd a)) ∧
    (m = 1#32 → decodeTableWord 32 h.toNat = some (.wz a)) ∧
    (m = 2#32 → decodeTableWord 32 h.toNat = some (.poll a)) ∧
    (m = 3#32 → decodeTableWord 32 h.toNat = some (.wr a)))

/-- A few words of the spec's encoding vectors E1, E2 and E3 decode to the instructions they stand for. -/
def Obligations.SpelledWordsDecode : Prop :=
  decodeCmd 0x08000000000000#54 = .start 0#3 0#48 ∧
  decodeCmd 0x1C000000001001#54 = .data 4#3 0x000000001001#48 ∧
  decodeCmd 0x26F6E5D4C3B2A1#54 = .datalast 6#3 0xF6E5D4C3B2A1#48 ∧
  decodeCmd 0x3FFFFFFFFFFFFF#54 = .illegal7 7#3 0xFFFFFFFFFFFF#48 ∧
  decodeHdr 0x12345678#32 = .rd 0x12345678#32 ∧
  decodeHdr 0x00003006#32 = .poll 0x00003004#32 ∧
  decodeHdr 0xFFFFFFFF#32 = .wr 0xFFFFFFFC#32

/-- R104, R105 (decision D38): each pseudo-instruction, in both forms, is a script of the grammar. -/
def Obligations.PseudoInstructionsAreScripts : Prop :=
  ∀ (clear : Bool) (a m v : Word),
    scriptMatches (pseudoRd clear a) = true ∧ scriptMatches (pseudoWz clear a) = true ∧
    scriptMatches (pseudoWr clear a v) = true ∧ scriptMatches (pseudoPoll clear a m v) = true

/-! ### The Script Opcodes -/

/-- `IDLE` (R122), opcode 0: it completes in every state and writes nothing; accepted in a step, it leaves the step what it
is without a command, so a terminal cycle still returns to `Idle`; and like every command it is held off from `data-last`
to the run's end. -/
def Obligations.IdleDoesNothing : Prop :=
  (∀ w : CmdWord, w.extractLsb' 51 3 = 0#3 → decodeCmd w = .idle (w.extractLsb' 48 3) (w.extractLsb' 0 48)) ∧
  (∀ (c : BitVec 3) (d : BitVec 48) (s : State), exec (.idle c d) s = .next s) ∧
  (∀ (s : State) (c : BitVec 3) (d : BitVec 48), acceptedCommand s = some (.idle c d) →
    step s = andThen (sequencerAction s) (finishCycle s)) ∧
  (∀ (s : State) (c : BitVec 3) (d : BitVec 48), acceptedCommand s = some (.idle c d) → s.terminal = true →
    ∃ t, step s = .next t ∧ t.seq = .idle) ∧
  (∀ s : State, s.running = true → s.lastSeen = true → s.accepted = none)

/-- `START` outside a run opens one: everything of the run is cleared, `AwaitingAddress` follows, `resid` and all other
state are kept (R123, with decision D20 for the terminal states). Inside a run it ends the run with
`IncompleteOperation` and opens none (R135, decision D21). -/
def Obligations.StartOpensRunOrRaises : Prop :=
  (∀ (c : BitVec 3) (d : BitVec 48) (s : State), s.running = false →
    exec (.start c d) s = .next
      { s with
        seq := .awaitingAddress, q := [], acc := 0, hdr := [], opnd := [], lastSeen := false, op := none, transDone := 0,
        attempts := 0, pollMet := false, outcome := .ok, txn := none, rbuf := [] }) ∧
  (∀ (c : BitVec 3) (d : BitVec 48) (s : State), s.running = true →
    exec (.start c d) s = .next (s.fail .incompleteOperation))

/-- `STARTCLR`, opcode 2, outside a run opens one and clears `resid`: it is `START` plus that. Inside a run it raises
`IncompleteOperation`, and `resid` is that cause, not cleared. Accepted in a terminal cycle it goes to `AwaitingAddress`
without passing through `Idle`. No other way clears `resid` (R124). -/
def Obligations.StartclrOpensRunAndClearsResid : Prop :=
  (∀ w : CmdWord, w.extractLsb' 51 3 = 2#3 → decodeCmd w = .startclr (w.extractLsb' 48 3) (w.extractLsb' 0 48)) ∧
  (∀ (c : BitVec 3) (d : BitVec 48) (s : State), s.running = false →
    exec (.startclr c d) s = .next
      { s with
        seq := .awaitingAddress, q := [], acc := 0, hdr := [], opnd := [], lastSeen := false, op := none, transDone := 0,
        attempts := 0, pollMet := false, outcome := .ok, txn := none, rbuf := [], resid := none }) ∧
  (∀ (c : BitVec 3) (d : BitVec 48) (s t : State), s.running = false → exec (.start c d) s = .next t →
    exec (.startclr c d) s = .next { t with resid := none }) ∧
  (∀ (c : BitVec 3) (d : BitVec 48) (s : State), s.running = true →
    exec (.startclr c d) s = .next (s.fail .incompleteOperation)) ∧
  (∀ (s : State) (c : BitVec 3) (d : BitVec 48), s.terminal = true → acceptedCommand s = some (.startclr c d) →
    ∃ t, step s = .next t ∧ t.seq = .awaitingAddress ∧ t.resid = none ∧ t.q = [] ∧ t.acc = 0) ∧
  (∀ s t : State, step s = .next t → s.resid ≠ none → t.resid = none →
    s.running = false ∧ ∃ c d, acceptedCommand s = some (.startclr c d))

/-- `DATA`, opcode 3, inside a run appends its first `count` bytes, byte `i` being bits `8i+7:8i` of the data field (R93, decision
D4), and counts them; with count 7 it raises `InvalidByteCount` in any state; outside a run it raises
`IncompleteOperation`; after the run's `data-last` it is not accepted (R125). -/
def Obligations.DataAppendsPayload : Prop :=
  (∀ w : CmdWord, w.extractLsb' 51 3 = 3#3 → decodeCmd w = .data (w.extractLsb' 48 3) (w.extractLsb' 0 48)) ∧
  (∀ (c : BitVec 3) (d : BitVec 48) (s : State), c ≠ 7#3 → s.running = true →
    ∃ l : List Byte, l.length = c.toNat ∧ (∀ i, i < c.toNat → l[i]? = some (d.extractLsb' (8 * i) 8)) ∧
      exec (.data c d) s = .next { s with q := s.q ++ l, acc := s.acc + c.toNat }) ∧
  (∀ (c : BitVec 3) (d : BitVec 48) (s : State), c ≠ 7#3 → s.running = false →
    exec (.data c d) s = .next (s.fail .incompleteOperation)) ∧
  (∀ (d : BitVec 48) (s : State), exec (.data 7#3 d) s = .next (s.fail .invalidByteCount)) ∧
  (∀ s : State, s.running = true → s.lastSeen = true → s.accepted = none)

/-- `DATALAST` does what `DATA` does and marks the end of the payload (R126, R128, R129, R136; decisions D4, D21). -/
def Obligations.DatalastAppendsAndMarksEnd : Prop :=
  (∀ (c : BitVec 3) (d : BitVec 48) (s : State), c ≠ 7#3 → s.running = true →
    ∃ l : List Byte, l.length = c.toNat ∧ (∀ i, i < c.toNat → l[i]? = some (d.extractLsb' (8 * i) 8)) ∧
      exec (.datalast c d) s = .next { s with q := s.q ++ l, acc := s.acc + c.toNat, lastSeen := true }) ∧
  (∀ (c : BitVec 3) (d : BitVec 48) (s : State), c ≠ 7#3 → s.running = false →
    exec (.datalast c d) s = .next (s.fail .incompleteOperation)) ∧
  (∀ (d : BitVec 48) (s : State), exec (.datalast 7#3 d) s = .next (s.fail .invalidByteCount))

/-- An illegal opcode value raises `MalformedOpcode` in any state, whatever its count and data: its own effect is that
entry, which completes. A step that accepts a word whose opcode field is 5, 6 or 7 ends in `Errored` with that cause, an
open run ended and its queue dropped (R127). The hypothesis on `seq` leaves out the one state in which the Sequencer has no
action of its own (log 10), which no run reaches. -/
def Obligations.IllegalOpcodesRaise : Prop :=
  (∀ (c : BitVec 3) (d : BitVec 48) (s : State),
    exec (.illegal5 c d) s = .next (s.fail .malformedOpcode) ∧
    exec (.illegal6 c d) s = .next (s.fail .malformedOpcode) ∧
    exec (.illegal7 c d) s = .next (s.fail .malformedOpcode)) ∧
  (∀ (s : State) (w : CmdWord), s.accepted = some w → 5 ≤ (w.extractLsb' 51 3).toNat →
    s.seq ≠ .executing ∨ s.op ≠ none →
    ∃ t, step s = .next t ∧ t.seq = .errored ∧ t.resid = some .malformedOpcode ∧ t.q = [] ∧ Cleared t)

/-- A step that accepts a `DATA` or `DATALAST` word with count 7 ends in `Errored` with `InvalidByteCount`, in any state,
inside a run or outside; no byte is queued and `last_seen` is not set (R128). The last hypothesis is that of `IllegalOpcodesRaise`. -/
def Obligations.AcceptedCountSevenEndsRun : Prop :=
  ∀ (s : State) (w : CmdWord), s.accepted = some w →
    w.extractLsb' 51 3 = 3#3 ∨ w.extractLsb' 51 3 = 4#3 → w.extractLsb' 48 3 = 7#3 →
    s.seq ≠ .executing ∨ s.op ≠ none →
    ∃ t, step s = .next t ∧ t.seq = .errored ∧ t.resid = some .invalidByteCount ∧ t.q = [] ∧ t.acc = 0 ∧
      t.lastSeen = false ∧ Cleared t

/-! ### Errors -/

/-- `fail(cause)` (R264): what it writes, that it writes nothing else, and that every cycle that ends in `Errored` has
gone through it: the run is cleared, a cause is recorded, and the cooldowns and the front end's registers take the values
they take in every cycle. -/
def Obligations.FailClearsRunAndSavesCause : Prop :=
  (∀ (c : Cause) (s : State),
    s.fail c =
      { s with
        seq := .errored, resid := some c, q := [], acc := 0, hdr := [], opnd := [], lastSeen := false, op := none,
        transDone := 0, attempts := 0, pollMet := false, outcome := .ok, txn := none, rbuf := [] } ∧
    (s.fail c).status = .errored) ∧
  (∀ s t : State, step s = .next t → t.seq = .errored →
    Cleared t ∧ (∃ c, t.resid = some c ∧ c ≠ .pollExhausted) ∧
    t.cool = decide (0 < s.consumed) ∧ t.rcool = decide (0 < s.rvalid) ∧ t.ip = s.nextIp ∧ t.fstate = s.nextFetch)

/-- A bus error in the retire cycle ends the run in `Errored` with `BusFault` for each of the four operations, a poll
included, its read data and the undelivered result bytes discarded; no transaction is left and none is issued. `err`
without `ready`, or with no transaction, raises nothing (R265). -/
def Obligations.BusErrorEndsRun : Prop :=
  (∀ (a : Word) (s : State), s.seq = .executing → s.txn ≠ none → s.busIn.ready = true → s.busIn.err = true →
    exec (.rd a) s = .next (s.fail .busFault) ∧ exec (.wz a) s = .next (s.fail .busFault) ∧
    exec (.poll a) s = .next (s.fail .busFault) ∧ exec (.wr a) s = .next (s.fail .busFault)) ∧
  (∀ s : State, s.seq = .executing → s.op ≠ none → s.txn ≠ none → s.busIn.ready = true → s.busIn.err = true →
    ∃ t, step s = .next t ∧ t.seq = .errored ∧ t.resid = some .busFault ∧ t.txn = none ∧ t.rbuf = []) ∧
  (∀ s t : State, step s = .next t → s.txn = none ∨ s.busIn.ready = false → t.resid = some .busFault →
    s.resid = some .busFault)

/-- After a `data-last`, too little payload ends the run in `Errored` with `IncompleteOperation` and nothing reaches the
bus: in the cycle the `data-last` is accepted, when the header is short or the recorded operation is; and in the decode
cycle, when the operation the header decodes to is, whether the `data-last` came before it or is accepted in it (R132, R126
(a); decision D23). With enough payload the run goes on (R126 (b)): while the header is awaited, in the decode cycle, and in
`Executing`. -/
def Obligations.ShortPayloadAborts : Prop :=
  (∀ (s : State) (c : BitVec 3) (d : BitVec 48), MachineInv s → s.running = true →
    acceptedCommand s = some (.datalast c d) → c ≠ 7#3 →
    s.acc + c.toNat < 4 ∨ (∃ o, s.op = some o ∧ s.acc + c.toNat < required 4 o) →
    ∃ t, step s = .next t ∧ t.seq = .errored ∧ t.resid = some .incompleteOperation ∧ t.txn = none ∧ Cleared t) ∧
  (∀ s : State, s.seq = .awaitingAddress → s.hdr.length = 4 →
    let o := decodeHeaderDefault s.params.pollBudget s.hdr
    (s.lastSeen = true →
      (s.acc < required 4 o →
        ∃ t, step s = .next t ∧ t.seq = .errored ∧ t.resid = some .incompleteOperation ∧ t.txn = none ∧ Cleared t) ∧
      (required 4 o ≤ s.acc →
        ∃ t, step s = .next t ∧ t.seq = .executing ∧ t.op = some o ∧ t.lastSeen = true ∧ t.resid = s.resid)) ∧
    (∀ (c : BitVec 3) (d : BitVec 48), acceptedCommand s = some (.datalast c d) → c ≠ 7#3 →
      (s.acc + c.toNat < required 4 o →
        ∃ t, step s = .next t ∧ t.seq = .errored ∧ t.resid = some .incompleteOperation ∧ t.txn = none ∧ Cleared t) ∧
      (required 4 o ≤ s.acc + c.toNat →
        ∃ t, step s = .next t ∧ t.seq = .executing ∧ t.op = some o ∧ t.lastSeen = true ∧ t.resid = s.resid))) ∧
  (∀ (s : State) (c : BitVec 3) (d : BitVec 48), MachineInv s → s.seq = .awaitingAddress → s.hdr.length < 4 →
    acceptedCommand s = some (.datalast c d) → c ≠ 7#3 → 4 ≤ s.acc + c.toNat →
    ∃ t, step s = .next t ∧ t.seq = .awaitingAddress ∧ t.lastSeen = true ∧ t.resid = s.resid) ∧
  (∀ (s : State) (c : BitVec 3) (d : BitVec 48) (o : Operation), MachineInv s → s.seq = .executing →
    s.op = some o → acceptedCommand s = some (.datalast c d) → c ≠ 7#3 → required 4 o ≤ s.acc + c.toNat →
    ∃ t, step s = .next t ∧ t.seq = .executing ∧ t.lastSeen = true ∧ t.resid = s.resid)

/-! ### The operations -/

/-- The decode cycle of each operation records it and enters `Executing`; everything else is kept (R154, and R191 with
decision D7 for the records). The fields R191 leaves unused, `budget` of `RD`, `WZ` and `WR` and `ntrans` of `POLL`, are 1:
that is the model's own choice (DESIGN CHOICE, log 11), not the spec's. -/
def Obligations.DecodeCycleRecordsOperation : Prop :=
  ∀ (a : Word) (s : State), s.seq = .awaitingAddress →
    exec (.rd a) s = .next
      { s with seq := .executing, op := some { kind := .read, addr := a, opndLen := 0, ntrans := 1, rbytes := 4, budget := 1 } } ∧
    exec (.wz a) s = .next
      { s with seq := .executing, op := some { kind := .write, addr := a, opndLen := 0, ntrans := 1, rbytes := 0, budget := 1 } } ∧
    exec (.poll a) s = .next
      { s with
        seq := .executing
        op := some { kind := .poll, addr := a, opndLen := 8, ntrans := 1, rbytes := 0, budget := s.params.pollBudget } } ∧
    exec (.wr a) s = .next
      { s with seq := .executing, op := some { kind := .write, addr := a, opndLen := 4, ntrans := 1, rbytes := 0, budget := 1 } }

/-- Each operation, with no transaction outstanding, work left and its operand group complete, issues one transaction at
its address and changes nothing else: a read of datum 0 for `RD` and for every attempt of `POLL`, a write of 0 for `WZ`,
a write of the four operand bytes, first byte least significant, for `WR` (R164, R193 to R196; R65 with decision D6). -/
def Obligations.OperationsIssueTheirTransaction : Prop :=
  ∀ (a : Word) (s : State), s.seq = .executing → s.txn = none →
    (s.transDone ≠ 1 →
      exec (.rd a) s = .next { s with txn := some { addr := a, write := false, wdata := 0#32 } }) ∧
    (s.transDone ≠ 1 → s.opnd = [] →
      exec (.wz a) s = .next { s with txn := some { addr := a, write := true, wdata := 0#32 } }) ∧
    (s.pollMet = false → s.attempts ≠ s.params.pollBudget → s.opnd.length = 8 →
      exec (.poll a) s = .next { s with txn := some { addr := a, write := false, wdata := 0#32 } }) ∧
    (∀ d0 d1 d2 d3 : Byte, s.transDone ≠ 1 → s.opnd = [d0, d1, d2, d3] →
      exec (.wr a) s = .next
        { s with txn := some { addr := a, write := true, wdata := (d3 ++ d2 ++ d1 ++ d0 : BitVec (8 + 8 + 8 + 8)) } })

/-- The consumption pulse (R130, R154, R156; decision D16): a header or an operand group of `WR` or `POLL` that is not
complete, with no transaction outstanding, takes at most three bytes from the head of the queue, as many as the queue and
the rest of the group allow, and none in a cycle after a pulse; nothing else changes, and the consumed-byte output is that
number. -/
def Obligations.OperandGroupIsConsumedInPulses : Prop :=
  (∀ s : State, s.seq = .awaitingAddress → s.hdr.length < 4 →
    let n := if s.cool then 0 else min 3 (min s.q.length (4 - s.hdr.length))
    sequencerAction s = .next { s with hdr := s.hdr ++ s.q.take n, q := s.q.drop n } ∧ s.consumed = n) ∧
  ∀ (a : Word) (s : State), s.seq = .executing → s.txn = none →
    (s.transDone ≠ 1 → s.opnd.length < 4 →
      let n := if s.cool then 0 else min 3 (min s.q.length (4 - s.opnd.length))
      exec (.wr a) s = .next { s with opnd := s.opnd ++ s.q.take n, q := s.q.drop n } ∧
      (s.op = some (wrOperation a) → s.consumed = n)) ∧
    (s.pollMet = false → s.attempts ≠ s.params.pollBudget → s.opnd.length < 8 →
      let n := if s.cool then 0 else min 3 (min s.q.length (8 - s.opnd.length))
      exec (.poll a) s = .next { s with opnd := s.opnd ++ s.q.take n, q := s.q.drop n } ∧
      (s.op = some (pollOperation a s.params.pollBudget) → s.consumed = n))

/-- While the target does not answer `ready`, no operation does anything, whatever `err` and the read data are (R155). -/
def Obligations.OutstandingTransactionWaits : Prop :=
  ∀ (a : Word) (s : State), s.seq = .executing → s.txn ≠ none → s.busIn.ready = false →
    exec (.rd a) s = .next s ∧ exec (.wz a) s = .next s ∧ exec (.poll a) s = .next s ∧ exec (.wr a) s = .next s

/-- `RD` retires without error: the transaction is done, and the four bytes of the read datum go to the tail of the result
buffer, least significant first (R165, R193; R66 with decision D17). `WZ` and `WR` retire: the transaction is done and the
operand group is emptied, whatever the read data are (R165, R194, R196). Nothing else changes. -/
def Obligations.ReadsAndWritesRetire : Prop :=
  ∀ (a : Word) (s : State), s.seq = .executing → s.txn ≠ none → s.busIn.ready = true → s.busIn.err = false →
    exec (.rd a) s = .next
      { s with
        txn := none, transDone := s.transDone + 1,
        rbuf := s.rbuf ++
          [s.busIn.rdata.extractLsb' 0 8, s.busIn.rdata.extractLsb' 8 8, s.busIn.rdata.extractLsb' 16 8,
            s.busIn.rdata.extractLsb' 24 8] } ∧
    exec (.wz a) s = .next { s with txn := none, transDone := s.transDone + 1, opnd := [] } ∧
    exec (.wr a) s = .next { s with txn := none, transDone := s.transDone + 1, opnd := [] }

/-- A poll attempt retires without error: it is counted; if the read datum under the mask is the value the condition is
met, the last attempt included; if not and the budget is used up the outcome is `PollFail`; nothing else changes, no
result byte is returned (R165, R195; decisions D9 and D18). -/
def Obligations.PollAttemptTestsCondition : Prop :=
  ∀ (a : Word) (s : State) (m0 m1 m2 m3 v0 v1 v2 v3 : Byte), s.seq = .executing → s.txn ≠ none →
    s.busIn.ready = true → s.busIn.err = false → s.opnd = [m0, m1, m2, m3, v0, v1, v2, v3] →
    let mask : Word := (m3 ++ m2 ++ m1 ++ m0 : BitVec (8 + 8 + 8 + 8))
    let value : Word := (v3 ++ v2 ++ v1 ++ v0 : BitVec (8 + 8 + 8 + 8))
    (s.busIn.rdata &&& mask = value →
      exec (.poll a) s = .next { s with txn := none, attempts := s.attempts + 1, pollMet := true }) ∧
    (s.busIn.rdata &&& mask ≠ value → s.attempts + 1 = s.params.pollBudget →
      exec (.poll a) s = .next { s with txn := none, attempts := s.attempts + 1, outcome := .pollFail }) ∧
    (s.busIn.rdata &&& mask ≠ value → s.attempts + 1 ≠ s.params.pollBudget →
      exec (.poll a) s = .next { s with txn := none, attempts := s.attempts + 1 })

/-- An operation whose transactions are done goes to `Completing` when `data-last` has been seen, and waits otherwise,
changing nothing else (R156, R163). -/
def Obligations.DoneOperationAwaitsDataLast : Prop :=
  ∀ (a : Word) (s : State), s.seq = .executing → s.txn = none →
    (s.transDone = 1 → s.lastSeen = true →
      exec (.rd a) s = .next { s with seq := .completing } ∧ exec (.wz a) s = .next { s with seq := .completing } ∧
      exec (.wr a) s = .next { s with seq := .completing }) ∧
    (s.transDone = 1 → s.lastSeen = false →
      exec (.rd a) s = .next s ∧ exec (.wz a) s = .next s ∧ exec (.wr a) s = .next s) ∧
    (s.pollMet = true ∨ s.attempts = s.params.pollBudget → s.lastSeen = true →
      exec (.poll a) s = .next { s with seq := .completing }) ∧
    (s.pollMet = true ∨ s.attempts = s.params.pollBudget → s.lastSeen = false → exec (.poll a) s = .next s)

/-- `Completing` waits for the result buffer to drain; then it enters `PollFailed`, recording `PollExhausted`, when the
outcome is `PollFail`, and `Completed`, leaving `resid`, when it is `Ok`; either way the run is cleared. No command is
accepted in it, and a bus fault never reaches it: no transaction is outstanding (R157). -/
def Obligations.CompletingEndsRun : Prop :=
  ∀ s : State, MachineInv s → s.seq = .completing →
    s.canAccept = false ∧ s.txn = none ∧
    ∃ t, step s = .next t ∧
      (s.rbuf ≠ [] → t.seq = .completing ∧ t.resid = s.resid) ∧
      (s.rbuf = [] → s.outcome = .pollFail → t.seq = .pollFailed ∧ t.resid = some .pollExhausted ∧ Cleared t) ∧
      (s.rbuf = [] → s.outcome = .ok → t.seq = .completed ∧ t.resid = s.resid ∧ Cleared t)

/-! ### The states of the Sequencer -/

/-- `Idle` (R153): the Sequencer does nothing, the status is `idle`, no byte is consumed and the bus is idle; a step leaves `Idle` only by
an accepted command: to `AwaitingAddress` by a start command, to `Errored` by an illegal or a payload command. -/
def Obligations.IdleLeavesOnlyByCommand : Prop :=
  ∀ s : State, s.seq = .idle →
    sequencerAction s = .next s ∧ s.status = .idle ∧ s.consumed = 0 ∧ (MachineInv s → s.busReq.select = false) ∧
    ∃ t, step s = .next t ∧
      t.seq = (match acceptedCommand s with
        | some i =>
          if isStart i then .awaitingAddress
          else if i.legal = false ∨ isPayload i = true then .errored
          else .idle
        | none => .idle)

/-- A terminal state is held for one cycle, in which the status shows it (R158, R272): the step after it is in `Idle`, unless a command accepted in that
cycle opens a run or raises a new error; all run state is already clear. -/
def Obligations.TerminalStateLastsOneCycle : Prop :=
  ∀ s : State, s.terminal = true →
    (MachineInv s → Cleared s) ∧
    (s.seq = .completed ∧ s.status = .completed ∨ s.seq = .pollFailed ∧ s.status = .pollFailed ∨
      s.seq = .errored ∧ s.status = .errored) ∧
    ∃ t, step s = .next t ∧
      (s.accepted = none → t.seq = .idle ∧ t.resid = s.resid) ∧
      (∀ i, acceptedCommand s = some i →
        (isStart i = true → t.seq = .awaitingAddress) ∧
        (i.legal = false ∨ isPayload i = true → t.seq = .errored) ∧
        (isStart i = false → i.legal = true → isPayload i = false → t.seq = .idle ∧ t.resid = s.resid))

/-- `seq` changes in a step only along the rows of the table of R162, each under its event as the start of the cycle and the
accepted command show it: the sufficiency check fires only where the end of the payload is marked and the payload is
short, and the return to `Idle` is for a cycle that accepts no start, no illegal and no payload command (an inference of
the spec from R153 to R158). -/
def Obligations.SeqChangesOnlyAlongTheTable : Prop :=
  ∀ s t : State, MachineInv s → step s = .next t → t.seq ≠ s.seq → SeqArc s t

/-- Every step keeps the invariants of R50 (and those they rest on), for the machine with its own layout. -/
def Obligations.StepKeepsInvariant : Prop :=
  ∀ s t : State, MachineInv s → step s = .next t → MachineInv t

/-- Every cycle of an engine with any lawful header layout keeps them, with as many transactions per operation as the
layout says (R190, R197; decisions D7 and D35). -/
def Obligations.LawfulLayoutKeepsInvariant : Prop :=
  ∀ (L : Config.HeaderLayout) (s t : State), L.Lawful → Inv L s → cycleOf L s = .next t → Inv L t

/-- The step of the machine is the cycle of the engine whose layout is `HL_DEFAULT` with the machine's budget, and that
layout is lawful (R191). -/
def Obligations.StepIsCycleOfDefaultLayout : Prop :=
  (∀ s : State, step s = cycleOf (hlDefault s.params.pollBudget) s) ∧
  (∀ n : Nat, 1 ≤ n → (hlDefault n).Lawful)

/-- The machine never stops where the invariant holds: a step answers a next state. The one stop of the model (log 10) is
`Executing` with no decoded operation, and no step is refused. -/
def Obligations.MachineNeverStops : Prop :=
  (∀ s : State, MachineInv s → ∃ t, step s = .next t) ∧
  (∀ s : State, (step s = .fault .noOperation ↔ s.seq = .executing ∧ s.op = none) ∧ ∀ r, step s ≠ .refused r)

/-- A run that has all its payload ends, if the target answers: there is a count of work left that every such cycle
lowers until a terminal state is reached (R303 gives the hypothesis on the target; R17 the end). -/
def Obligations.RunEndsOnceTargetAnswers : Prop :=
  ∃ work : State → Nat, ∀ s t : State, MachineInv s → s.running = true → s.lastSeen = true →
    (s.txn ≠ none → s.busIn.ready = true) → step s = .next t →
    RunEnded t ∨ (t.running = true ∧ t.lastSeen = true ∧ work t < work s)

/-! ### Pulses and bytes -/

/-- The consumed-byte output (R159): at most three bytes, not zero only in `AwaitingAddress` and in `Executing` with the
bus idle; it is the number of bytes that leave the head of the queue; and it is never above zero in two consecutive
cycles. -/
def Obligations.ConsumptionIsNeverBackToBack : Prop :=
  (∀ s : State, s.consumed ≤ 3 ∧
    (0 < s.consumed → s.seq = .awaitingAddress ∨ s.seq = .executing ∧ s.txn = none)) ∧
  (∀ s t : State, step s = .next t → 0 < s.consumed → t.consumed = 0) ∧
  (∀ s t : State, step s = .next t → s.running = true → t.running = true →
    s.consumed ≤ s.q.length ∧
    ∃ l, t.q = s.q.drop s.consumed ++ l ∧ (s.accepted = none → l = []))

/-- Result pulses (R160, decision D17): as many bytes as there are and at most three, the oldest first, and none in the
cycle after a pulse; and while a run goes on no result byte is lost or reordered: what the pulse took and what is left are
what was there, followed by the bytes of a read that retired in this cycle, and by nothing in any other cycle. -/
def Obligations.ResultBytesComeInOrder : Prop :=
  (∀ s : State,
    (s.rcool = false → s.rvalid = min 3 s.rbuf.length) ∧ (s.rcool = true → s.rvalid = 0) ∧
    s.rdata = leWord (s.rbuf.take s.rvalid)) ∧
  (∀ s t : State, step s = .next t → 0 < s.rvalid → t.rvalid = 0) ∧
  (∀ s t : State, step s = .next t → s.running = true → t.running = true →
    ∃ l, s.rbuf.take s.rvalid ++ t.rbuf = s.rbuf ++ l ∧
      (s.txn = none ∨ s.busIn.ready = false → l = []) ∧
      (∀ o, s.op = some o → s.seq = .executing → s.txn ≠ none → s.busIn.ready = true → s.busIn.err = false →
        l = if o.kind = .read then bytesLE s.busIn.rdata.toNat o.rbytes else []))

/-- The four bytes of a read result, all in the result buffer in the cycle after the retirement, reach the caller in two
pulses, three bytes and then the fourth, two cycles apart: the first while the Sequencer is still in `Executing`, the second
in `Completing`; and `Completed` follows after the buffer is empty (R193, R160, R156, R306; decision D17). -/
def Obligations.ReadResultTakesTwoPulses : Prop :=
  ∀ (s t1 t2 t3 t4 : State) (v : Word), MachineInv s → s.seq = .executing → s.txn = none → s.lastSeen = true →
    s.rbuf = bytesLE v.toNat 4 → s.rcool = false →
    step s = .next t1 → step t1 = .next t2 → step t2 = .next t3 → step t3 = .next t4 →
    s.rvalid = 3 ∧ s.rdata = v &&& 0x00FFFFFF#32 ∧
    t1.seq = .completing ∧ t1.rvalid = 0 ∧
    t2.seq = .completing ∧ t2.rvalid = 1 ∧ t2.rdata = v >>> 24 ∧
    t3.seq = .completing ∧ t3.rvalid = 0 ∧ t4.seq = .completed

/-- The payload of a run is one stream, cut into the header and then the operand groups; chunk boundaries carry no
meaning (R95, R129, R130): while the header is awaited, header and queue together are what they were and the accepted
bytes after them; while no transaction is outstanding, operand group and queue together are. -/
def Obligations.PayloadStreamIsPreserved : Prop :=
  (∀ s t : State, step s = .next t → s.seq = .awaitingAddress → t.running = true →
    t.hdr ++ t.q = s.hdr ++ s.q ++
      (match acceptedCommand s with
        | some (.data c d) => payloadBytes c d
        | some (.datalast c d) => payloadBytes c d
        | _ => [])) ∧
  (∀ s t : State, step s = .next t → s.seq = .executing → s.txn = none → t.running = true →
    t.hdr = s.hdr ∧
    t.opnd ++ t.q = s.opnd ++ s.q ++
      (match acceptedCommand s with
        | some (.data c d) => payloadBytes c d
        | some (.datalast c d) => payloadBytes c d
        | _ => []))

/-- After `data-last` a run never waits for payload: a group that is not complete finds bytes in the queue (R132, R23;
decision D23). -/
def Obligations.NoGroupStarvesAfterDataLast : Prop :=
  ∀ s : State, MachineInv s → s.lastSeen = true →
    (s.seq = .awaitingAddress → s.hdr.length < 4 → s.q ≠ []) ∧
    (∀ o, s.seq = .executing → s.op = some o → opDone o s = false → s.opnd.length < opNeed o → s.q ≠ [])

/-! ### The bus -/

/-- The bus wires of the Codec (R211, R214; decisions D11 and D12): the outstanding transaction with `enable` and `select`,
a read with datum 0, or all zero. -/
def Obligations.BusWiresShowTransaction : Prop :=
  (∀ (s : State) (tx : Txn), s.txn = some tx →
    s.busReq = { addr := tx.addr, enable := true, select := true, write := tx.write, wdata := tx.wdata }) ∧
  (∀ s : State, s.txn = none →
    s.busReq = { addr := 0#32, enable := false, select := false, write := false, wdata := 0#32 }) ∧
  (∀ s : State, MachineInv s → s.busReq.write = false → s.busReq.wdata = 0#32)

/-- Timing of one transaction (R212): a step that issues one, and does not end the run, has it on the wires in the next
cycle; it stays there, unchanged, for as long as the target has not answered `ready`, with no bound; in the cycle after the
answer the wires are idle; and a transaction comes onto the wires only by being issued in the cycle before. -/
def Obligations.TransactionStaysUntilReady : Prop :=
  ∀ s : State, MachineInv s →
    (∀ (o : Operation) (t : State), s.seq = .executing → s.txn = none → s.op = some o → opDone o s = false →
      s.opnd.length = opNeed o → step s = .next t → t.running = true →
      t.txn = some (issuedTxn o s) ∧ t.busReq.select = true ∧ t.busReq.enable = true) ∧
    (∀ (tx : Txn) (n : Nat), s.txn = some tx →
      (∀ (k : Nat) (u : State), k < n → StepsTo k s u → u.busIn.ready = false) →
      ∃ t, StepsTo n s t ∧ t.txn = some tx ∧ t.busReq = s.busReq ∧ t.busReq.select = true ∧ t.busReq.enable = true) ∧
    (∀ t : State, s.txn ≠ none → s.busIn.ready = true → step s = .next t →
      t.txn = none ∧ t.busReq = { addr := 0#32, enable := false, select := false, write := false, wdata := 0#32 }) ∧
    (∀ (tx : Txn) (t : State), s.txn = none → step s = .next t → t.txn = some tx →
      s.seq = .executing ∧ t.seq = .executing ∧
      ∃ o, s.op = some o ∧ opDone o s = false ∧ s.opnd.length = opNeed o ∧ tx = issuedTxn o s)

/-- The bus response has no effect where it is not awaited (R213, U10; decision D13): with no transaction outstanding no
part of it has; without `ready` neither `err` nor the read data has; at the retirement of a write the read data have
none. -/
def Obligations.BusAnswerIgnoredUnlessAwaited : Prop :=
  (∀ (s : State) (b b' : BusResp) (r : Request) (rest : List Inputs), s.txn = none →
    step { s with inputs := { bus := b, req := r } :: rest } = step { s with inputs := { bus := b', req := r } :: rest }) ∧
  (∀ (s : State) (v v' : Word) (e e' : Bool) (r : Request) (rest : List Inputs),
    step { s with inputs := { bus := { rdata := v, ready := false, err := e }, req := r } :: rest } =
      step { s with inputs := { bus := { rdata := v', ready := false, err := e' }, req := r } :: rest }) ∧
  (∀ (s : State) (o : Operation) (v v' : Word) (b e : Bool) (r : Request) (rest : List Inputs), s.op = some o →
    o.kind = .write →
    step { s with inputs := { bus := { rdata := v, ready := b, err := e }, req := r } :: rest } =
      step { s with inputs := { bus := { rdata := v', ready := b, err := e }, req := r } :: rest })

/-- A poll that reports failure has made exactly as many attempts as its budget, none of which met the condition; and no
poll ever makes more (R195, R266). -/
def Obligations.PollFailsAfterExactlyItsBudget : Prop :=
  (∀ s t : State, MachineInv s → step s = .next t → t.seq = .pollFailed →
    ∃ o, s.op = some o ∧ o.kind = .poll ∧ s.attempts = o.budget ∧ o.budget = s.params.pollBudget ∧ s.pollMet = false ∧
      t.resid = some .pollExhausted) ∧
  (∀ (s t : State) (o : Operation), MachineInv s → step s = .next t → t.op = some o → o.kind = .poll →
    t.attempts ≤ t.params.pollBudget)

/-- `Completed` is entered only when the operation's transactions have all retired without error, `data-last` has been
seen, a poll's condition was met, and every result byte has been handed over (R80, R28, R157). -/
def Obligations.CompletedMeansAllDone : Prop :=
  ∀ s t : State, MachineInv s → step s = .next t → t.seq = .completed →
    s.lastSeen = true ∧ s.rbuf = [] ∧ s.txn = none ∧
    ∃ o, s.op = some o ∧
      (o.kind ≠ .poll → s.transDone = o.ntrans) ∧ (o.kind = .poll → s.pollMet = true)

/-! ### Flow control and the front ends -/

/-- Readiness for a command, by state (R152, V13; decision D19). -/
def Obligations.CommandsAreAcceptedExactlyWhenReady : Prop :=
  ∀ s : State,
    (s.txn ≠ none → s.canAccept = false) ∧
    (s.seq = .completing → s.canAccept = false) ∧
    (s.seq = .idle ∨ s.terminal = true → s.txn = none → s.canAccept = true) ∧
    (s.seq = .awaitingAddress ∨ s.seq = .executing → s.txn = none → s.canAccept = !s.lastSeen)

/-- The acknowledge of the stream-fed instance (R226, R228; decision D29): in a cycle with a valid request the word on the
wires is accepted exactly when `acknowledge` is given, which is when the engine can accept; `store_busy` is 0. -/
def Obligations.AcknowledgeIsAcceptance : Prop :=
  ∀ s : State, s.frontEnd = .stream →
    s.ack = some { acknowledge := s.reqIn.valid && s.canAccept, storeBusy := false } ∧
    (s.reqIn.valid = true ∧ s.canAccept = true → s.accepted = some s.reqIn.payload) ∧
    (s.reqIn.valid = false ∨ s.canAccept = false → s.accepted = none) ∧ s.storeReq = none

/-- A command that is presented and not accepted has no effect on any state, and a held one is presented again (R120,
R229, R243). A request that is not valid is none, whatever its payload (R94, decision D40). -/
def Obligations.UnacceptedCommandLeavesNoTrace : Prop :=
  (∀ (s : State) (b : BusResp) (r r' : Request) (rest : List Inputs), s.canAccept = false →
    step { s with inputs := { bus := b, req := r } :: rest } = step { s with inputs := { bus := b, req := r' } :: rest }) ∧
  (∀ (s : State) (b : BusResp) (p p' : CmdWord) (rest : List Inputs),
    step { s with inputs := { bus := b, req := { valid := false, payload := p } } :: rest } =
      step { s with inputs := { bus := b, req := { valid := false, payload := p' } } :: rest }) ∧
  (∀ (s t : State) (w : CmdWord), s.frontEnd = .autonomous → s.canAccept = false →
    step { s with fstate := .held w } = .next t →
    t.fstate = .held w ∧ step { s with fstate := .noFetch } = .next { t with fstate := .noFetch })

/-- The fields a command ignores change nothing (R92, R93, U10; decisions D4 and D5): the count and data of `IDLE`, `START`,
`STARTCLR` and of an illegal command, and the data bytes at and above the count of a payload command. -/
def Obligations.IgnoredFieldsChangeNothing : Prop :=
  ∀ (c c' : BitVec 3) (d d' : BitVec 48) (s : State),
    exec (.idle c d) s = exec (.idle c' d') s ∧ exec (.start c d) s = exec (.start c' d') s ∧
    exec (.startclr c d) s = exec (.startclr c' d') s ∧ exec (.illegal5 c d) s = exec (.illegal5 c' d') s ∧
    exec (.illegal6 c d) s = exec (.illegal6 c' d') s ∧ exec (.illegal7 c d) s = exec (.illegal7 c' d') s ∧
    ((∀ i, i < 8 * c.toNat → d.getLsbD i = d'.getLsbD i) →
      exec (.data c d) s = exec (.data c d') s ∧ exec (.datalast c d) s = exec (.datalast c d') s)

/-- `NoFetch` (R241): no command is presented, the store is asked for the word at `ip` exactly when a command can be
accepted, and then the fetch is pending for the store's latency: so no fetch starts while a transaction is outstanding, nor
from a run's `data-last` to its terminal cycle. -/
def Obligations.FetchStartsWhenCommandCanBeAccepted : Prop :=
  ∀ s : State, s.frontEnd = .autonomous → s.fstate = .noFetch →
    s.presented = none ∧ s.storeReq = some { read := s.canAccept, addr := s.ip } ∧
    ∀ t, step s = .next t →
      t.ip = s.ip ∧ (t.fstate = if s.canAccept then .pending s.params.fetchLatency else .noFetch) ∧
      (s.txn ≠ none ∨ s.running = true ∧ s.lastSeen = true → t.fstate = .noFetch)

/-- `Pending(k)` and `Held(w)` (R242, R243; decision D30): nothing is presented and nothing requested while a fetch is
pending; it counts down, and at 1 the word at `ip` is captured; a held word is presented until it is accepted, and
kept unchanged meanwhile. The address on the port is left open in both (log 19). -/
def Obligations.FetchCompletesAndHolds : Prop :=
  ∀ s t : State, s.frontEnd = .autonomous → step s = .next t →
    (∀ k, s.fstate = .pending k →
      s.presented = none ∧ (∃ a, s.storeReq = some { read := false, addr := a }) ∧
      (1 < k → t.fstate = .pending (k - 1)) ∧ (k = 1 → t.fstate = .held (Memory.read s.store s.ip.toNat))) ∧
    (∀ w, s.fstate = .held w →
      s.presented = some w ∧ (∃ a, s.storeReq = some { read := false, addr := a }) ∧
      t.fstate = if s.canAccept then .noFetch else .held w)

/-- The instruction pointer (R244, R40; decision D30 for the wrap): a step changes it only in the cycle a word is captured, and
then by one modulo 2^16, whatever the commands, the transitions and the errors of the cycle. -/
def Obligations.InstructionPointerMovesOnlyAtCapture : Prop :=
  ∀ s t : State, step s = .next t →
    (s.frontEnd = .autonomous → s.fstate = .pending 1 → t.ip.toNat = (s.ip.toNat + 1) % 65536) ∧
    (s.frontEnd = .stream ∨ (∀ k, s.fstate = .pending k → 2 ≤ k) → t.ip = s.ip)

/-- The latency of a fetch (R245, decision D30): a word requested in a cycle is held, with the pointer one further,
`L + 1` cycles later, whatever the Sequencer does meanwhile (R242, R247). -/
def Obligations.FetchTakesItsLatency : Prop :=
  ∀ s t : State, s.frontEnd = .autonomous → s.fstate = .noFetch → s.canAccept = true → 1 ≤ s.params.fetchLatency →
    StepsTo (s.params.fetchLatency + 1) s t →
    t.fstate = .held (Memory.read s.store s.ip.toNat) ∧ t.ip = s.ip + 1#16

/-- No step writes the command store, the parameters or the choice of the instance: every word of the store reads after a
step what it read before it (R63, R78, R39). -/
def Obligations.StepLeavesStoreAndParameters : Prop :=
  ∀ s t : State, step s = .next t →
    (∀ a : StoreAddr, Memory.read t.store a.toNat = Memory.read s.store a.toNat) ∧ t.store = s.store ∧
    t.params = s.params ∧ t.frontEnd = s.frontEnd ∧ t.now = s.now + 1 ∧ t.inputs = s.inputs.tail

/-! ### State that is never read, and status -/

/-- The residual state changes no transition and no output (R38, decision D25): with another value in it, a step gives the
same next state but for the residual state, and the outputs are the same. What writes it is a step that ends in `Errored`
or `PollFailed`, and an accepted `start-and-clear`; every other step leaves it. -/
def Obligations.ResidualStateIsWrittenAndNotRead : Prop :=
  (∀ s t : State, step s = .next t → t.seq ≠ .errored → t.seq ≠ .pollFailed →
    (∀ c d, acceptedCommand s ≠ some (.startclr c d)) → t.resid = s.resid) ∧
  ∀ (s t : State) (r : Option Cause), step s = .next t →
    (∃ r', step { s with resid := r } = .next { t with resid := r' } ∧ (t.resid ≠ s.resid → r' = t.resid)) ∧
    State.response { s with resid := r } = s.response ∧ State.busReq { s with resid := r } = s.busReq ∧
    State.ack { s with resid := r } = s.ack ∧ State.storeReq { s with resid := r } = s.storeReq

/-- The status is a function of `seq` (R151, R98; decisions D1 and D34), and `errored` and the other terminal values are
shown exactly in the terminal states. -/
def Obligations.StatusFollowsSeq : Prop :=
  ∀ s : State,
    (s.seq = .idle → s.status = .idle ∧ s.status.code = 0#3) ∧
    (s.seq = .awaitingAddress ∨ s.seq = .executing ∨ s.seq = .completing → s.status = .running ∧ s.status.code = 1#3) ∧
    (s.seq = .completed → s.status = .completed ∧ s.status.code = 2#3) ∧
    (s.seq = .pollFailed → s.status = .pollFailed ∧ s.status.code = 3#3) ∧
    (s.seq = .errored → s.status = .errored ∧ s.status.code = 4#3)

/-- Step 5 of R161 (decision D16): whatever a cycle does, the cooldowns of the next state record the pulses of this one,
`cool` the consumption pulse and `rcool` the result pulse; R50 (f) is one direction of it. -/
def Obligations.CooldownsRecordThePulses : Prop :=
  ∀ s t : State, step s = .next t → (t.cool = true ↔ 0 < s.consumed) ∧ (t.rcool = true ↔ 0 < s.rvalid)
end

