-- ==== Sys2Proof/Laws/Memory.lean ====
section
/-! SUPPORT. The command store: a read after a write, and every operation over the store keeps the canonical form. -/

namespace Sys2Proof.Machine

/-- `m` is in canonical form and all its addresses are above `a`. -/
def Memory.above (a : Nat) (m : Memory) : Prop := ∀ c ∈ m, a < c.1

theorem Memory.rising_cons (a : Nat) (w : CmdWord) (m : Memory) :
    Memory.rising ((a, w) :: m) = true ↔ Memory.above a m ∧ Memory.rising m = true := by
  induction m generalizing a w with
  | nil => simp [Memory.rising, Memory.above]
  | cons c m ih =>
    obtain ⟨b, v⟩ := c
    rw [show Memory.rising ((a, w) :: (b, v) :: m) = (decide (a < b) && Memory.rising ((b, v) :: m)) from rfl,
      Bool.and_eq_true, ih, decide_eq_true_eq]
    constructor
    · rintro ⟨hab, hb, hr⟩
      refine ⟨fun c hc => ?_, hb, hr⟩
      rcases List.mem_cons.1 hc with rfl | hc
      · exact hab
      · exact lt_trans hab (hb c hc)
    · rintro ⟨ha, hb, hr⟩
      exact ⟨ha (b, v) (by simp), hb, hr⟩

theorem Memory.wf_iff (m : Memory) :
    Memory.wf m = true ↔ Memory.rising m = true ∧ ∀ c ∈ m, c.1 < 2 ^ 16 ∧ c.2 ≠ Memory.unlisted := by
  simp [Memory.wf]

theorem Memory.mem_erase {m : Memory} {a : Nat} {c : Nat × CmdWord} :
    c ∈ Memory.erase m a ↔ c ∈ m ∧ c.1 ≠ a := by
  induction m with
  | nil => simp [Memory.erase]
  | cons d m ih =>
    obtain ⟨b, v⟩ := d
    by_cases h : a = b
    · subst h
      rw [Memory.erase, if_pos rfl, ih]
      constructor
      · rintro ⟨h1, h2⟩; exact ⟨List.mem_cons_of_mem _ h1, h2⟩
      · rintro ⟨h1, h2⟩
        rcases List.mem_cons.1 h1 with rfl | h1
        · exact absurd rfl h2
        · exact ⟨h1, h2⟩
    · rw [Memory.erase, if_neg h, List.mem_cons, ih, List.mem_cons]
      constructor
      · rintro (rfl | ⟨h1, h2⟩)
        · exact ⟨.inl rfl, fun e => h e.symm⟩
        · exact ⟨.inr h1, h2⟩
      · rintro ⟨rfl | h1, h2⟩
        · exact .inl rfl
        · exact .inr ⟨h1, h2⟩

theorem Memory.mem_insert {m : Memory} {a : Nat} {w : CmdWord} {c : Nat × CmdWord}
    (h : c ∈ Memory.insert m a w) : c = (a, w) ∨ c ∈ m := by
  induction m with
  | nil => simpa [Memory.insert] using h
  | cons d m ih =>
    obtain ⟨b, v⟩ := d
    unfold Memory.insert at h
    split at h
    · simpa using h
    · split at h
      · rcases List.mem_cons.1 h with h | h
        · exact .inl h
        · exact .inr (List.mem_cons_of_mem _ h)
      · rcases List.mem_cons.1 h with h | h
        · exact .inr (h ▸ List.mem_cons_self)
        · rcases ih h with h | h
          · exact .inl h
          · exact .inr (List.mem_cons_of_mem _ h)

theorem Memory.erase_rising {m : Memory} (a : Nat) (h : Memory.rising m = true) :
    Memory.rising (Memory.erase m a) = true := by
  induction m with
  | nil => rfl
  | cons d m ih =>
    obtain ⟨b, v⟩ := d
    obtain ⟨h1, h2⟩ := (Memory.rising_cons b v m).1 h
    unfold Memory.erase
    split
    · exact ih h2
    · exact (Memory.rising_cons b v _).2 ⟨fun c hc => h1 c (Memory.mem_erase.1 hc).1, ih h2⟩

theorem Memory.insert_rising {m : Memory} (a : Nat) (w : CmdWord) (h : Memory.rising m = true) :
    Memory.rising (Memory.insert m a w) = true := by
  induction m with
  | nil => rfl
  | cons d m ih =>
    obtain ⟨b, v⟩ := d
    obtain ⟨h1, h2⟩ := (Memory.rising_cons b v m).1 h
    unfold Memory.insert
    split
    · rename_i hab
      refine (Memory.rising_cons a w _).2 ⟨fun c hc => ?_, h⟩
      rcases List.mem_cons.1 hc with rfl | hc
      · exact hab
      · exact lt_trans hab (h1 c hc)
    · split
      · rename_i hab; subst hab; exact (Memory.rising_cons a w m).2 ⟨h1, h2⟩
      · refine (Memory.rising_cons b v _).2 ⟨fun c hc => ?_, ih h2⟩
        rcases Memory.mem_insert hc with rfl | hc
        · show b < a; omega
        · exact h1 c hc

/-- Setting a word from outside keeps the canonical form. -/
theorem Memory.write_wf {m : Memory} (a : StoreAddr) (w : CmdWord) (h : Memory.wf m = true) :
    Memory.wf (Memory.write m a w) = true := by
  obtain ⟨hr, hc⟩ := (Memory.wf_iff m).1 h
  unfold Memory.write
  split
  · exact (Memory.wf_iff _).2 ⟨Memory.erase_rising _ hr, fun c h => hc c (Memory.mem_erase.1 h).1⟩
  · rename_i hw
    refine (Memory.wf_iff _).2 ⟨Memory.insert_rising _ _ hr, fun c h => ?_⟩
    rcases Memory.mem_insert h with rfl | h
    · exact ⟨a.isLt, hw⟩
    · exact hc c h

/-- Loading a script keeps the canonical form. -/
theorem State.load_store_wf (ws : List CmdWord) (s : State) (a : StoreAddr) (h : Memory.wf s.store = true) :
    Memory.wf (s.load a ws).store = true := by
  induction ws generalizing s a with
  | nil => exact h
  | cons w ws ih => exact ih _ _ (Memory.write_wf a w h)

/-- The store of the reset state is in canonical form. -/
theorem State.reset_store_wf (f : FrontEnd) : Memory.wf (State.resetOf f).store = true := rfl

theorem Memory.read_erase (m : Memory) (a b : Nat) :
    Memory.read (Memory.erase m a) b = if b = a then Memory.unlisted else Memory.read m b := by
  induction m with
  | nil => simp [Memory.erase, Memory.read]
  | cons d m ih =>
    obtain ⟨c, v⟩ := d
    by_cases h : a = c
    · subst h; by_cases hb : b = a <;> simp_all [Memory.erase, Memory.read]
    · by_cases hb : b = c
      · subst hb; simp [Memory.erase, Memory.read, h, Ne.symm h]
      · simp [Memory.erase, Memory.read, h, hb, ih]

theorem Memory.read_insert (m : Memory) (a b : Nat) (w : CmdWord) :
    Memory.read (Memory.insert m a w) b = if b = a then w else Memory.read m b := by
  induction m with
  | nil => simp [Memory.insert, Memory.read]
  | cons d m ih =>
    obtain ⟨c, v⟩ := d
    unfold Memory.insert
    split
    · rfl
    · split
      · rename_i h; subst h; by_cases hb : b = a <;> simp [Memory.read, hb]
      · rename_i h
        by_cases hb : b = c
        · subst hb; simp [Memory.read, Ne.symm h]
        · simp [Memory.read, hb, ih]

/-- A read after a write: the word written at its address, and at every other address what was read before. -/
theorem Memory.read_write (m : Memory) (a b : StoreAddr) (w : CmdWord) :
    Memory.read (Memory.write m a w) b.toNat = if b = a then w else Memory.read m b.toNat := by
  unfold Memory.write
  split
  · rename_i h; subst h; simp [Memory.read_erase, BitVec.toNat_inj]
  · simp [Memory.read_insert, BitVec.toNat_inj]

end Sys2Proof.Machine
end

