-- ==== Sys2Proof/Laws/State.lean ====
section
/-! SUPPORT. One lemma per field per named update of the state, all true by `rfl`, so that no proof unfolds a record
update. -/

namespace Sys2Proof.Machine

variable (s t : State)

/-! ### `clear_run()` (R46) -/

@[simp] theorem State.clearRun_seq : (s.clearRun).seq = s.seq := rfl
@[simp] theorem State.clearRun_q : (s.clearRun).q = [] := rfl
@[simp] theorem State.clearRun_acc : (s.clearRun).acc = 0 := rfl
@[simp] theorem State.clearRun_hdr : (s.clearRun).hdr = [] := rfl
@[simp] theorem State.clearRun_opnd : (s.clearRun).opnd = [] := rfl
@[simp] theorem State.clearRun_lastSeen : (s.clearRun).lastSeen = false := rfl
@[simp] theorem State.clearRun_op : (s.clearRun).op = none := rfl
@[simp] theorem State.clearRun_transDone : (s.clearRun).transDone = 0 := rfl
@[simp] theorem State.clearRun_attempts : (s.clearRun).attempts = 0 := rfl
@[simp] theorem State.clearRun_pollMet : (s.clearRun).pollMet = false := rfl
@[simp] theorem State.clearRun_outcome : (s.clearRun).outcome = .ok := rfl
@[simp] theorem State.clearRun_txn : (s.clearRun).txn = none := rfl
@[simp] theorem State.clearRun_cool : (s.clearRun).cool = s.cool := rfl
@[simp] theorem State.clearRun_rcool : (s.clearRun).rcool = s.rcool := rfl
@[simp] theorem State.clearRun_rbuf : (s.clearRun).rbuf = [] := rfl
@[simp] theorem State.clearRun_resid : (s.clearRun).resid = s.resid := rfl
@[simp] theorem State.clearRun_ip : (s.clearRun).ip = s.ip := rfl
@[simp] theorem State.clearRun_fstate : (s.clearRun).fstate = s.fstate := rfl
@[simp] theorem State.clearRun_frontEnd : (s.clearRun).frontEnd = s.frontEnd := rfl
@[simp] theorem State.clearRun_params : (s.clearRun).params = s.params := rfl
@[simp] theorem State.clearRun_store : (s.clearRun).store = s.store := rfl
@[simp] theorem State.clearRun_inputs : (s.clearRun).inputs = s.inputs := rfl
@[simp] theorem State.clearRun_now : (s.clearRun).now = s.now := rfl
@[simp] theorem State.clearRun_running : (s.clearRun).running = s.running := rfl

/-! ### `fail(cause)` (R264) -/

@[simp] theorem State.fail_seq (c : Cause) : (s.fail c).seq = .errored := rfl
@[simp] theorem State.fail_q (c : Cause) : (s.fail c).q = [] := rfl
@[simp] theorem State.fail_acc (c : Cause) : (s.fail c).acc = 0 := rfl
@[simp] theorem State.fail_hdr (c : Cause) : (s.fail c).hdr = [] := rfl
@[simp] theorem State.fail_opnd (c : Cause) : (s.fail c).opnd = [] := rfl
@[simp] theorem State.fail_lastSeen (c : Cause) : (s.fail c).lastSeen = false := rfl
@[simp] theorem State.fail_op (c : Cause) : (s.fail c).op = none := rfl
@[simp] theorem State.fail_transDone (c : Cause) : (s.fail c).transDone = 0 := rfl
@[simp] theorem State.fail_attempts (c : Cause) : (s.fail c).attempts = 0 := rfl
@[simp] theorem State.fail_pollMet (c : Cause) : (s.fail c).pollMet = false := rfl
@[simp] theorem State.fail_outcome (c : Cause) : (s.fail c).outcome = .ok := rfl
@[simp] theorem State.fail_txn (c : Cause) : (s.fail c).txn = none := rfl
@[simp] theorem State.fail_cool (c : Cause) : (s.fail c).cool = s.cool := rfl
@[simp] theorem State.fail_rcool (c : Cause) : (s.fail c).rcool = s.rcool := rfl
@[simp] theorem State.fail_rbuf (c : Cause) : (s.fail c).rbuf = [] := rfl
@[simp] theorem State.fail_resid (c : Cause) : (s.fail c).resid = some c := rfl
@[simp] theorem State.fail_ip (c : Cause) : (s.fail c).ip = s.ip := rfl
@[simp] theorem State.fail_fstate (c : Cause) : (s.fail c).fstate = s.fstate := rfl
@[simp] theorem State.fail_frontEnd (c : Cause) : (s.fail c).frontEnd = s.frontEnd := rfl
@[simp] theorem State.fail_params (c : Cause) : (s.fail c).params = s.params := rfl
@[simp] theorem State.fail_store (c : Cause) : (s.fail c).store = s.store := rfl
@[simp] theorem State.fail_inputs (c : Cause) : (s.fail c).inputs = s.inputs := rfl
@[simp] theorem State.fail_now (c : Cause) : (s.fail c).now = s.now := rfl
@[simp] theorem State.fail_running (c : Cause) : (s.fail c).running = false := rfl

/-! ### the return from a terminal state (R158) -/

@[simp] theorem State.returnToIdle_seq : (s.returnToIdle).seq = .idle := rfl
@[simp] theorem State.returnToIdle_q : (s.returnToIdle).q = s.q := rfl
@[simp] theorem State.returnToIdle_acc : (s.returnToIdle).acc = s.acc := rfl
@[simp] theorem State.returnToIdle_hdr : (s.returnToIdle).hdr = s.hdr := rfl
@[simp] theorem State.returnToIdle_opnd : (s.returnToIdle).opnd = s.opnd := rfl
@[simp] theorem State.returnToIdle_lastSeen : (s.returnToIdle).lastSeen = s.lastSeen := rfl
@[simp] theorem State.returnToIdle_op : (s.returnToIdle).op = s.op := rfl
@[simp] theorem State.returnToIdle_transDone : (s.returnToIdle).transDone = s.transDone := rfl
@[simp] theorem State.returnToIdle_attempts : (s.returnToIdle).attempts = s.attempts := rfl
@[simp] theorem State.returnToIdle_pollMet : (s.returnToIdle).pollMet = s.pollMet := rfl
@[simp] theorem State.returnToIdle_outcome : (s.returnToIdle).outcome = s.outcome := rfl
@[simp] theorem State.returnToIdle_txn : (s.returnToIdle).txn = s.txn := rfl
@[simp] theorem State.returnToIdle_cool : (s.returnToIdle).cool = s.cool := rfl
@[simp] theorem State.returnToIdle_rcool : (s.returnToIdle).rcool = s.rcool := rfl
@[simp] theorem State.returnToIdle_rbuf : (s.returnToIdle).rbuf = s.rbuf := rfl
@[simp] theorem State.returnToIdle_resid : (s.returnToIdle).resid = s.resid := rfl
@[simp] theorem State.returnToIdle_ip : (s.returnToIdle).ip = s.ip := rfl
@[simp] theorem State.returnToIdle_fstate : (s.returnToIdle).fstate = s.fstate := rfl
@[simp] theorem State.returnToIdle_frontEnd : (s.returnToIdle).frontEnd = s.frontEnd := rfl
@[simp] theorem State.returnToIdle_params : (s.returnToIdle).params = s.params := rfl
@[simp] theorem State.returnToIdle_store : (s.returnToIdle).store = s.store := rfl
@[simp] theorem State.returnToIdle_inputs : (s.returnToIdle).inputs = s.inputs := rfl
@[simp] theorem State.returnToIdle_now : (s.returnToIdle).now = s.now := rfl
@[simp] theorem State.returnToIdle_running : (s.returnToIdle).running = false := rfl

/-! ### the opening of a run (R123) -/

@[simp] theorem State.openRun_seq : (s.openRun).seq = .awaitingAddress := rfl
@[simp] theorem State.openRun_q : (s.openRun).q = [] := rfl
@[simp] theorem State.openRun_acc : (s.openRun).acc = 0 := rfl
@[simp] theorem State.openRun_hdr : (s.openRun).hdr = [] := rfl
@[simp] theorem State.openRun_opnd : (s.openRun).opnd = [] := rfl
@[simp] theorem State.openRun_lastSeen : (s.openRun).lastSeen = false := rfl
@[simp] theorem State.openRun_op : (s.openRun).op = none := rfl
@[simp] theorem State.openRun_transDone : (s.openRun).transDone = 0 := rfl
@[simp] theorem State.openRun_attempts : (s.openRun).attempts = 0 := rfl
@[simp] theorem State.openRun_pollMet : (s.openRun).pollMet = false := rfl
@[simp] theorem State.openRun_outcome : (s.openRun).outcome = .ok := rfl
@[simp] theorem State.openRun_txn : (s.openRun).txn = none := rfl
@[simp] theorem State.openRun_cool : (s.openRun).cool = s.cool := rfl
@[simp] theorem State.openRun_rcool : (s.openRun).rcool = s.rcool := rfl
@[simp] theorem State.openRun_rbuf : (s.openRun).rbuf = [] := rfl
@[simp] theorem State.openRun_resid : (s.openRun).resid = s.resid := rfl
@[simp] theorem State.openRun_ip : (s.openRun).ip = s.ip := rfl
@[simp] theorem State.openRun_fstate : (s.openRun).fstate = s.fstate := rfl
@[simp] theorem State.openRun_frontEnd : (s.openRun).frontEnd = s.frontEnd := rfl
@[simp] theorem State.openRun_params : (s.openRun).params = s.params := rfl
@[simp] theorem State.openRun_store : (s.openRun).store = s.store := rfl
@[simp] theorem State.openRun_inputs : (s.openRun).inputs = s.inputs := rfl
@[simp] theorem State.openRun_now : (s.openRun).now = s.now := rfl
@[simp] theorem State.openRun_running : (s.openRun).running = true := rfl

/-! ### `append(c)` (R129) -/

@[simp] theorem State.append_seq (c : BitVec 3) (d : BitVec 48) : (s.append c d).seq = s.seq := rfl
@[simp] theorem State.append_q (c : BitVec 3) (d : BitVec 48) : (s.append c d).q = s.q ++ payloadBytes c d := rfl
@[simp] theorem State.append_acc (c : BitVec 3) (d : BitVec 48) : (s.append c d).acc = s.acc + c.toNat := rfl
@[simp] theorem State.append_hdr (c : BitVec 3) (d : BitVec 48) : (s.append c d).hdr = s.hdr := rfl
@[simp] theorem State.append_opnd (c : BitVec 3) (d : BitVec 48) : (s.append c d).opnd = s.opnd := rfl
@[simp] theorem State.append_lastSeen (c : BitVec 3) (d : BitVec 48) : (s.append c d).lastSeen = s.lastSeen := rfl
@[simp] theorem State.append_op (c : BitVec 3) (d : BitVec 48) : (s.append c d).op = s.op := rfl
@[simp] theorem State.append_transDone (c : BitVec 3) (d : BitVec 48) : (s.append c d).transDone = s.transDone := rfl
@[simp] theorem State.append_attempts (c : BitVec 3) (d : BitVec 48) : (s.append c d).attempts = s.attempts := rfl
@[simp] theorem State.append_pollMet (c : BitVec 3) (d : BitVec 48) : (s.append c d).pollMet = s.pollMet := rfl
@[simp] theorem State.append_outcome (c : BitVec 3) (d : BitVec 48) : (s.append c d).outcome = s.outcome := rfl
@[simp] theorem State.append_txn (c : BitVec 3) (d : BitVec 48) : (s.append c d).txn = s.txn := rfl
@[simp] theorem State.append_cool (c : BitVec 3) (d : BitVec 48) : (s.append c d).cool = s.cool := rfl
@[simp] theorem State.append_rcool (c : BitVec 3) (d : BitVec 48) : (s.append c d).rcool = s.rcool := rfl
@[simp] theorem State.append_rbuf (c : BitVec 3) (d : BitVec 48) : (s.append c d).rbuf = s.rbuf := rfl
@[simp] theorem State.append_resid (c : BitVec 3) (d : BitVec 48) : (s.append c d).resid = s.resid := rfl
@[simp] theorem State.append_ip (c : BitVec 3) (d : BitVec 48) : (s.append c d).ip = s.ip := rfl
@[simp] theorem State.append_fstate (c : BitVec 3) (d : BitVec 48) : (s.append c d).fstate = s.fstate := rfl
@[simp] theorem State.append_frontEnd (c : BitVec 3) (d : BitVec 48) : (s.append c d).frontEnd = s.frontEnd := rfl
@[simp] theorem State.append_params (c : BitVec 3) (d : BitVec 48) : (s.append c d).params = s.params := rfl
@[simp] theorem State.append_store (c : BitVec 3) (d : BitVec 48) : (s.append c d).store = s.store := rfl
@[simp] theorem State.append_inputs (c : BitVec 3) (d : BitVec 48) : (s.append c d).inputs = s.inputs := rfl
@[simp] theorem State.append_now (c : BitVec 3) (d : BitVec 48) : (s.append c d).now = s.now := rfl
@[simp] theorem State.append_running (c : BitVec 3) (d : BitVec 48) : (s.append c d).running = s.running := rfl

/-! ### a consumption pulse into `hdr` (R130) -/

@[simp] theorem State.popHdr_seq (n : Nat) : (s.popHdr n).seq = s.seq := rfl
@[simp] theorem State.popHdr_q (n : Nat) : (s.popHdr n).q = s.q.drop n := rfl
@[simp] theorem State.popHdr_acc (n : Nat) : (s.popHdr n).acc = s.acc := rfl
@[simp] theorem State.popHdr_hdr (n : Nat) : (s.popHdr n).hdr = s.hdr ++ s.q.take n := rfl
@[simp] theorem State.popHdr_opnd (n : Nat) : (s.popHdr n).opnd = s.opnd := rfl
@[simp] theorem State.popHdr_lastSeen (n : Nat) : (s.popHdr n).lastSeen = s.lastSeen := rfl
@[simp] theorem State.popHdr_op (n : Nat) : (s.popHdr n).op = s.op := rfl
@[simp] theorem State.popHdr_transDone (n : Nat) : (s.popHdr n).transDone = s.transDone := rfl
@[simp] theorem State.popHdr_attempts (n : Nat) : (s.popHdr n).attempts = s.attempts := rfl
@[simp] theorem State.popHdr_pollMet (n : Nat) : (s.popHdr n).pollMet = s.pollMet := rfl
@[simp] theorem State.popHdr_outcome (n : Nat) : (s.popHdr n).outcome = s.outcome := rfl
@[simp] theorem State.popHdr_txn (n : Nat) : (s.popHdr n).txn = s.txn := rfl
@[simp] theorem State.popHdr_cool (n : Nat) : (s.popHdr n).cool = s.cool := rfl
@[simp] theorem State.popHdr_rcool (n : Nat) : (s.popHdr n).rcool = s.rcool := rfl
@[simp] theorem State.popHdr_rbuf (n : Nat) : (s.popHdr n).rbuf = s.rbuf := rfl
@[simp] theorem State.popHdr_resid (n : Nat) : (s.popHdr n).resid = s.resid := rfl
@[simp] theorem State.popHdr_ip (n : Nat) : (s.popHdr n).ip = s.ip := rfl
@[simp] theorem State.popHdr_fstate (n : Nat) : (s.popHdr n).fstate = s.fstate := rfl
@[simp] theorem State.popHdr_frontEnd (n : Nat) : (s.popHdr n).frontEnd = s.frontEnd := rfl
@[simp] theorem State.popHdr_params (n : Nat) : (s.popHdr n).params = s.params := rfl
@[simp] theorem State.popHdr_store (n : Nat) : (s.popHdr n).store = s.store := rfl
@[simp] theorem State.popHdr_inputs (n : Nat) : (s.popHdr n).inputs = s.inputs := rfl
@[simp] theorem State.popHdr_now (n : Nat) : (s.popHdr n).now = s.now := rfl
@[simp] theorem State.popHdr_running (n : Nat) : (s.popHdr n).running = s.running := rfl

/-! ### a consumption pulse into `opnd` (R130) -/

@[simp] theorem State.popOpnd_seq (n : Nat) : (s.popOpnd n).seq = s.seq := rfl
@[simp] theorem State.popOpnd_q (n : Nat) : (s.popOpnd n).q = s.q.drop n := rfl
@[simp] theorem State.popOpnd_acc (n : Nat) : (s.popOpnd n).acc = s.acc := rfl
@[simp] theorem State.popOpnd_hdr (n : Nat) : (s.popOpnd n).hdr = s.hdr := rfl
@[simp] theorem State.popOpnd_opnd (n : Nat) : (s.popOpnd n).opnd = s.opnd ++ s.q.take n := rfl
@[simp] theorem State.popOpnd_lastSeen (n : Nat) : (s.popOpnd n).lastSeen = s.lastSeen := rfl
@[simp] theorem State.popOpnd_op (n : Nat) : (s.popOpnd n).op = s.op := rfl
@[simp] theorem State.popOpnd_transDone (n : Nat) : (s.popOpnd n).transDone = s.transDone := rfl
@[simp] theorem State.popOpnd_attempts (n : Nat) : (s.popOpnd n).attempts = s.attempts := rfl
@[simp] theorem State.popOpnd_pollMet (n : Nat) : (s.popOpnd n).pollMet = s.pollMet := rfl
@[simp] theorem State.popOpnd_outcome (n : Nat) : (s.popOpnd n).outcome = s.outcome := rfl
@[simp] theorem State.popOpnd_txn (n : Nat) : (s.popOpnd n).txn = s.txn := rfl
@[simp] theorem State.popOpnd_cool (n : Nat) : (s.popOpnd n).cool = s.cool := rfl
@[simp] theorem State.popOpnd_rcool (n : Nat) : (s.popOpnd n).rcool = s.rcool := rfl
@[simp] theorem State.popOpnd_rbuf (n : Nat) : (s.popOpnd n).rbuf = s.rbuf := rfl
@[simp] theorem State.popOpnd_resid (n : Nat) : (s.popOpnd n).resid = s.resid := rfl
@[simp] theorem State.popOpnd_ip (n : Nat) : (s.popOpnd n).ip = s.ip := rfl
@[simp] theorem State.popOpnd_fstate (n : Nat) : (s.popOpnd n).fstate = s.fstate := rfl
@[simp] theorem State.popOpnd_frontEnd (n : Nat) : (s.popOpnd n).frontEnd = s.frontEnd := rfl
@[simp] theorem State.popOpnd_params (n : Nat) : (s.popOpnd n).params = s.params := rfl
@[simp] theorem State.popOpnd_store (n : Nat) : (s.popOpnd n).store = s.store := rfl
@[simp] theorem State.popOpnd_inputs (n : Nat) : (s.popOpnd n).inputs = s.inputs := rfl
@[simp] theorem State.popOpnd_now (n : Nat) : (s.popOpnd n).now = s.now := rfl
@[simp] theorem State.popOpnd_running (n : Nat) : (s.popOpnd n).running = s.running := rfl

/-! ### `issue()` (R164) -/

@[simp] theorem State.issue_seq (o : Operation) : (s.issue o).seq = s.seq := rfl
@[simp] theorem State.issue_q (o : Operation) : (s.issue o).q = s.q := rfl
@[simp] theorem State.issue_acc (o : Operation) : (s.issue o).acc = s.acc := rfl
@[simp] theorem State.issue_hdr (o : Operation) : (s.issue o).hdr = s.hdr := rfl
@[simp] theorem State.issue_opnd (o : Operation) : (s.issue o).opnd = s.opnd := rfl
@[simp] theorem State.issue_lastSeen (o : Operation) : (s.issue o).lastSeen = s.lastSeen := rfl
@[simp] theorem State.issue_op (o : Operation) : (s.issue o).op = s.op := rfl
@[simp] theorem State.issue_transDone (o : Operation) : (s.issue o).transDone = s.transDone := rfl
@[simp] theorem State.issue_attempts (o : Operation) : (s.issue o).attempts = s.attempts := rfl
@[simp] theorem State.issue_pollMet (o : Operation) : (s.issue o).pollMet = s.pollMet := rfl
@[simp] theorem State.issue_outcome (o : Operation) : (s.issue o).outcome = s.outcome := rfl
@[simp] theorem State.issue_txn (o : Operation) : (s.issue o).txn = some (issuedTxn o s) := rfl
@[simp] theorem State.issue_cool (o : Operation) : (s.issue o).cool = s.cool := rfl
@[simp] theorem State.issue_rcool (o : Operation) : (s.issue o).rcool = s.rcool := rfl
@[simp] theorem State.issue_rbuf (o : Operation) : (s.issue o).rbuf = s.rbuf := rfl
@[simp] theorem State.issue_resid (o : Operation) : (s.issue o).resid = s.resid := rfl
@[simp] theorem State.issue_ip (o : Operation) : (s.issue o).ip = s.ip := rfl
@[simp] theorem State.issue_fstate (o : Operation) : (s.issue o).fstate = s.fstate := rfl
@[simp] theorem State.issue_frontEnd (o : Operation) : (s.issue o).frontEnd = s.frontEnd := rfl
@[simp] theorem State.issue_params (o : Operation) : (s.issue o).params = s.params := rfl
@[simp] theorem State.issue_store (o : Operation) : (s.issue o).store = s.store := rfl
@[simp] theorem State.issue_inputs (o : Operation) : (s.issue o).inputs = s.inputs := rfl
@[simp] theorem State.issue_now (o : Operation) : (s.issue o).now = s.now := rfl
@[simp] theorem State.issue_running (o : Operation) : (s.issue o).running = s.running := rfl

/-! ### the retirement of a write (R165) -/

@[simp] theorem State.retireWrite_seq : (s.retireWrite).seq = s.seq := rfl
@[simp] theorem State.retireWrite_q : (s.retireWrite).q = s.q := rfl
@[simp] theorem State.retireWrite_acc : (s.retireWrite).acc = s.acc := rfl
@[simp] theorem State.retireWrite_hdr : (s.retireWrite).hdr = s.hdr := rfl
@[simp] theorem State.retireWrite_opnd : (s.retireWrite).opnd = [] := rfl
@[simp] theorem State.retireWrite_lastSeen : (s.retireWrite).lastSeen = s.lastSeen := rfl
@[simp] theorem State.retireWrite_op : (s.retireWrite).op = s.op := rfl
@[simp] theorem State.retireWrite_transDone : (s.retireWrite).transDone = s.transDone + 1 := rfl
@[simp] theorem State.retireWrite_attempts : (s.retireWrite).attempts = s.attempts := rfl
@[simp] theorem State.retireWrite_pollMet : (s.retireWrite).pollMet = s.pollMet := rfl
@[simp] theorem State.retireWrite_outcome : (s.retireWrite).outcome = s.outcome := rfl
@[simp] theorem State.retireWrite_txn : (s.retireWrite).txn = none := rfl
@[simp] theorem State.retireWrite_cool : (s.retireWrite).cool = s.cool := rfl
@[simp] theorem State.retireWrite_rcool : (s.retireWrite).rcool = s.rcool := rfl
@[simp] theorem State.retireWrite_rbuf : (s.retireWrite).rbuf = s.rbuf := rfl
@[simp] theorem State.retireWrite_resid : (s.retireWrite).resid = s.resid := rfl
@[simp] theorem State.retireWrite_ip : (s.retireWrite).ip = s.ip := rfl
@[simp] theorem State.retireWrite_fstate : (s.retireWrite).fstate = s.fstate := rfl
@[simp] theorem State.retireWrite_frontEnd : (s.retireWrite).frontEnd = s.frontEnd := rfl
@[simp] theorem State.retireWrite_params : (s.retireWrite).params = s.params := rfl
@[simp] theorem State.retireWrite_store : (s.retireWrite).store = s.store := rfl
@[simp] theorem State.retireWrite_inputs : (s.retireWrite).inputs = s.inputs := rfl
@[simp] theorem State.retireWrite_now : (s.retireWrite).now = s.now := rfl
@[simp] theorem State.retireWrite_running : (s.retireWrite).running = s.running := rfl

/-! ### the retirement of a read (R165) -/

@[simp] theorem State.retireRead_seq (v : Word) (n : Nat) : (s.retireRead v n).seq = s.seq := rfl
@[simp] theorem State.retireRead_q (v : Word) (n : Nat) : (s.retireRead v n).q = s.q := rfl
@[simp] theorem State.retireRead_acc (v : Word) (n : Nat) : (s.retireRead v n).acc = s.acc := rfl
@[simp] theorem State.retireRead_hdr (v : Word) (n : Nat) : (s.retireRead v n).hdr = s.hdr := rfl
@[simp] theorem State.retireRead_opnd (v : Word) (n : Nat) : (s.retireRead v n).opnd = s.opnd := rfl
@[simp] theorem State.retireRead_lastSeen (v : Word) (n : Nat) : (s.retireRead v n).lastSeen = s.lastSeen := rfl
@[simp] theorem State.retireRead_op (v : Word) (n : Nat) : (s.retireRead v n).op = s.op := rfl
@[simp] theorem State.retireRead_transDone (v : Word) (n : Nat) : (s.retireRead v n).transDone = s.transDone + 1 := rfl
@[simp] theorem State.retireRead_attempts (v : Word) (n : Nat) : (s.retireRead v n).attempts = s.attempts := rfl
@[simp] theorem State.retireRead_pollMet (v : Word) (n : Nat) : (s.retireRead v n).pollMet = s.pollMet := rfl
@[simp] theorem State.retireRead_outcome (v : Word) (n : Nat) : (s.retireRead v n).outcome = s.outcome := rfl
@[simp] theorem State.retireRead_txn (v : Word) (n : Nat) : (s.retireRead v n).txn = none := rfl
@[simp] theorem State.retireRead_cool (v : Word) (n : Nat) : (s.retireRead v n).cool = s.cool := rfl
@[simp] theorem State.retireRead_rcool (v : Word) (n : Nat) : (s.retireRead v n).rcool = s.rcool := rfl
@[simp] theorem State.retireRead_rbuf (v : Word) (n : Nat) : (s.retireRead v n).rbuf = s.rbuf ++ resultBytes v n := rfl
@[simp] theorem State.retireRead_resid (v : Word) (n : Nat) : (s.retireRead v n).resid = s.resid := rfl
@[simp] theorem State.retireRead_ip (v : Word) (n : Nat) : (s.retireRead v n).ip = s.ip := rfl
@[simp] theorem State.retireRead_fstate (v : Word) (n : Nat) : (s.retireRead v n).fstate = s.fstate := rfl
@[simp] theorem State.retireRead_frontEnd (v : Word) (n : Nat) : (s.retireRead v n).frontEnd = s.frontEnd := rfl
@[simp] theorem State.retireRead_params (v : Word) (n : Nat) : (s.retireRead v n).params = s.params := rfl
@[simp] theorem State.retireRead_store (v : Word) (n : Nat) : (s.retireRead v n).store = s.store := rfl
@[simp] theorem State.retireRead_inputs (v : Word) (n : Nat) : (s.retireRead v n).inputs = s.inputs := rfl
@[simp] theorem State.retireRead_now (v : Word) (n : Nat) : (s.retireRead v n).now = s.now := rfl
@[simp] theorem State.retireRead_running (v : Word) (n : Nat) : (s.retireRead v n).running = s.running := rfl

/-! ### the retirement of a poll attempt (R165) -/

@[simp] theorem State.retirePoll_seq (v : Word) (b : Nat) : (s.retirePoll v b).seq = s.seq := rfl
@[simp] theorem State.retirePoll_q (v : Word) (b : Nat) : (s.retirePoll v b).q = s.q := rfl
@[simp] theorem State.retirePoll_acc (v : Word) (b : Nat) : (s.retirePoll v b).acc = s.acc := rfl
@[simp] theorem State.retirePoll_hdr (v : Word) (b : Nat) : (s.retirePoll v b).hdr = s.hdr := rfl
@[simp] theorem State.retirePoll_opnd (v : Word) (b : Nat) : (s.retirePoll v b).opnd = s.opnd := rfl
@[simp] theorem State.retirePoll_lastSeen (v : Word) (b : Nat) : (s.retirePoll v b).lastSeen = s.lastSeen := rfl
@[simp] theorem State.retirePoll_op (v : Word) (b : Nat) : (s.retirePoll v b).op = s.op := rfl
@[simp] theorem State.retirePoll_transDone (v : Word) (b : Nat) : (s.retirePoll v b).transDone = s.transDone := rfl
@[simp] theorem State.retirePoll_attempts (v : Word) (b : Nat) : (s.retirePoll v b).attempts = s.attempts + 1 := rfl
@[simp] theorem State.retirePoll_pollMet (v : Word) (b : Nat) : (s.retirePoll v b).pollMet = (s.pollMet || pollHit s.opnd v) := rfl
@[simp] theorem State.retirePoll_outcome (v : Word) (b : Nat) : (s.retirePoll v b).outcome = if pollHit s.opnd v = false ∧ s.attempts + 1 = b then .pollFail else s.outcome := rfl
@[simp] theorem State.retirePoll_txn (v : Word) (b : Nat) : (s.retirePoll v b).txn = none := rfl
@[simp] theorem State.retirePoll_cool (v : Word) (b : Nat) : (s.retirePoll v b).cool = s.cool := rfl
@[simp] theorem State.retirePoll_rcool (v : Word) (b : Nat) : (s.retirePoll v b).rcool = s.rcool := rfl
@[simp] theorem State.retirePoll_rbuf (v : Word) (b : Nat) : (s.retirePoll v b).rbuf = s.rbuf := rfl
@[simp] theorem State.retirePoll_resid (v : Word) (b : Nat) : (s.retirePoll v b).resid = s.resid := rfl
@[simp] theorem State.retirePoll_ip (v : Word) (b : Nat) : (s.retirePoll v b).ip = s.ip := rfl
@[simp] theorem State.retirePoll_fstate (v : Word) (b : Nat) : (s.retirePoll v b).fstate = s.fstate := rfl
@[simp] theorem State.retirePoll_frontEnd (v : Word) (b : Nat) : (s.retirePoll v b).frontEnd = s.frontEnd := rfl
@[simp] theorem State.retirePoll_params (v : Word) (b : Nat) : (s.retirePoll v b).params = s.params := rfl
@[simp] theorem State.retirePoll_store (v : Word) (b : Nat) : (s.retirePoll v b).store = s.store := rfl
@[simp] theorem State.retirePoll_inputs (v : Word) (b : Nat) : (s.retirePoll v b).inputs = s.inputs := rfl
@[simp] theorem State.retirePoll_now (v : Word) (b : Nat) : (s.retirePoll v b).now = s.now := rfl
@[simp] theorem State.retirePoll_running (v : Word) (b : Nat) : (s.retirePoll v b).running = s.running := rfl

/-! ### the decode cycle (R154) -/

@[simp] theorem State.enterExecuting_seq (o : Operation) : (s.enterExecuting o).seq = .executing := rfl
@[simp] theorem State.enterExecuting_q (o : Operation) : (s.enterExecuting o).q = s.q := rfl
@[simp] theorem State.enterExecuting_acc (o : Operation) : (s.enterExecuting o).acc = s.acc := rfl
@[simp] theorem State.enterExecuting_hdr (o : Operation) : (s.enterExecuting o).hdr = s.hdr := rfl
@[simp] theorem State.enterExecuting_opnd (o : Operation) : (s.enterExecuting o).opnd = s.opnd := rfl
@[simp] theorem State.enterExecuting_lastSeen (o : Operation) : (s.enterExecuting o).lastSeen = s.lastSeen := rfl
@[simp] theorem State.enterExecuting_op (o : Operation) : (s.enterExecuting o).op = some o := rfl
@[simp] theorem State.enterExecuting_transDone (o : Operation) : (s.enterExecuting o).transDone = s.transDone := rfl
@[simp] theorem State.enterExecuting_attempts (o : Operation) : (s.enterExecuting o).attempts = s.attempts := rfl
@[simp] theorem State.enterExecuting_pollMet (o : Operation) : (s.enterExecuting o).pollMet = s.pollMet := rfl
@[simp] theorem State.enterExecuting_outcome (o : Operation) : (s.enterExecuting o).outcome = s.outcome := rfl
@[simp] theorem State.enterExecuting_txn (o : Operation) : (s.enterExecuting o).txn = s.txn := rfl
@[simp] theorem State.enterExecuting_cool (o : Operation) : (s.enterExecuting o).cool = s.cool := rfl
@[simp] theorem State.enterExecuting_rcool (o : Operation) : (s.enterExecuting o).rcool = s.rcool := rfl
@[simp] theorem State.enterExecuting_rbuf (o : Operation) : (s.enterExecuting o).rbuf = s.rbuf := rfl
@[simp] theorem State.enterExecuting_resid (o : Operation) : (s.enterExecuting o).resid = s.resid := rfl
@[simp] theorem State.enterExecuting_ip (o : Operation) : (s.enterExecuting o).ip = s.ip := rfl
@[simp] theorem State.enterExecuting_fstate (o : Operation) : (s.enterExecuting o).fstate = s.fstate := rfl
@[simp] theorem State.enterExecuting_frontEnd (o : Operation) : (s.enterExecuting o).frontEnd = s.frontEnd := rfl
@[simp] theorem State.enterExecuting_params (o : Operation) : (s.enterExecuting o).params = s.params := rfl
@[simp] theorem State.enterExecuting_store (o : Operation) : (s.enterExecuting o).store = s.store := rfl
@[simp] theorem State.enterExecuting_inputs (o : Operation) : (s.enterExecuting o).inputs = s.inputs := rfl
@[simp] theorem State.enterExecuting_now (o : Operation) : (s.enterExecuting o).now = s.now := rfl
@[simp] theorem State.enterExecuting_running (o : Operation) : (s.enterExecuting o).running = true := rfl

/-! ### the entry to `PollFailed` (R157) -/

@[simp] theorem State.enterPollFailed_seq : (s.enterPollFailed).seq = .pollFailed := rfl
@[simp] theorem State.enterPollFailed_q : (s.enterPollFailed).q = [] := rfl
@[simp] theorem State.enterPollFailed_acc : (s.enterPollFailed).acc = 0 := rfl
@[simp] theorem State.enterPollFailed_hdr : (s.enterPollFailed).hdr = [] := rfl
@[simp] theorem State.enterPollFailed_opnd : (s.enterPollFailed).opnd = [] := rfl
@[simp] theorem State.enterPollFailed_lastSeen : (s.enterPollFailed).lastSeen = false := rfl
@[simp] theorem State.enterPollFailed_op : (s.enterPollFailed).op = none := rfl
@[simp] theorem State.enterPollFailed_transDone : (s.enterPollFailed).transDone = 0 := rfl
@[simp] theorem State.enterPollFailed_attempts : (s.enterPollFailed).attempts = 0 := rfl
@[simp] theorem State.enterPollFailed_pollMet : (s.enterPollFailed).pollMet = false := rfl
@[simp] theorem State.enterPollFailed_outcome : (s.enterPollFailed).outcome = .ok := rfl
@[simp] theorem State.enterPollFailed_txn : (s.enterPollFailed).txn = none := rfl
@[simp] theorem State.enterPollFailed_cool : (s.enterPollFailed).cool = s.cool := rfl
@[simp] theorem State.enterPollFailed_rcool : (s.enterPollFailed).rcool = s.rcool := rfl
@[simp] theorem State.enterPollFailed_rbuf : (s.enterPollFailed).rbuf = [] := rfl
@[simp] theorem State.enterPollFailed_resid : (s.enterPollFailed).resid = some .pollExhausted := rfl
@[simp] theorem State.enterPollFailed_ip : (s.enterPollFailed).ip = s.ip := rfl
@[simp] theorem State.enterPollFailed_fstate : (s.enterPollFailed).fstate = s.fstate := rfl
@[simp] theorem State.enterPollFailed_frontEnd : (s.enterPollFailed).frontEnd = s.frontEnd := rfl
@[simp] theorem State.enterPollFailed_params : (s.enterPollFailed).params = s.params := rfl
@[simp] theorem State.enterPollFailed_store : (s.enterPollFailed).store = s.store := rfl
@[simp] theorem State.enterPollFailed_inputs : (s.enterPollFailed).inputs = s.inputs := rfl
@[simp] theorem State.enterPollFailed_now : (s.enterPollFailed).now = s.now := rfl
@[simp] theorem State.enterPollFailed_running : (s.enterPollFailed).running = false := rfl

/-! ### the entry to `Completed` (R157) -/

@[simp] theorem State.enterCompleted_seq : (s.enterCompleted).seq = .completed := rfl
@[simp] theorem State.enterCompleted_q : (s.enterCompleted).q = [] := rfl
@[simp] theorem State.enterCompleted_acc : (s.enterCompleted).acc = 0 := rfl
@[simp] theorem State.enterCompleted_hdr : (s.enterCompleted).hdr = [] := rfl
@[simp] theorem State.enterCompleted_opnd : (s.enterCompleted).opnd = [] := rfl
@[simp] theorem State.enterCompleted_lastSeen : (s.enterCompleted).lastSeen = false := rfl
@[simp] theorem State.enterCompleted_op : (s.enterCompleted).op = none := rfl
@[simp] theorem State.enterCompleted_transDone : (s.enterCompleted).transDone = 0 := rfl
@[simp] theorem State.enterCompleted_attempts : (s.enterCompleted).attempts = 0 := rfl
@[simp] theorem State.enterCompleted_pollMet : (s.enterCompleted).pollMet = false := rfl
@[simp] theorem State.enterCompleted_outcome : (s.enterCompleted).outcome = .ok := rfl
@[simp] theorem State.enterCompleted_txn : (s.enterCompleted).txn = none := rfl
@[simp] theorem State.enterCompleted_cool : (s.enterCompleted).cool = s.cool := rfl
@[simp] theorem State.enterCompleted_rcool : (s.enterCompleted).rcool = s.rcool := rfl
@[simp] theorem State.enterCompleted_rbuf : (s.enterCompleted).rbuf = [] := rfl
@[simp] theorem State.enterCompleted_resid : (s.enterCompleted).resid = s.resid := rfl
@[simp] theorem State.enterCompleted_ip : (s.enterCompleted).ip = s.ip := rfl
@[simp] theorem State.enterCompleted_fstate : (s.enterCompleted).fstate = s.fstate := rfl
@[simp] theorem State.enterCompleted_frontEnd : (s.enterCompleted).frontEnd = s.frontEnd := rfl
@[simp] theorem State.enterCompleted_params : (s.enterCompleted).params = s.params := rfl
@[simp] theorem State.enterCompleted_store : (s.enterCompleted).store = s.store := rfl
@[simp] theorem State.enterCompleted_inputs : (s.enterCompleted).inputs = s.inputs := rfl
@[simp] theorem State.enterCompleted_now : (s.enterCompleted).now = s.now := rfl
@[simp] theorem State.enterCompleted_running : (s.enterCompleted).running = false := rfl

/-! ### the result drain (R160) -/

@[simp] theorem State.drain_seq (n : Nat) : (s.drain n).seq = s.seq := rfl
@[simp] theorem State.drain_q (n : Nat) : (s.drain n).q = s.q := rfl
@[simp] theorem State.drain_acc (n : Nat) : (s.drain n).acc = s.acc := rfl
@[simp] theorem State.drain_hdr (n : Nat) : (s.drain n).hdr = s.hdr := rfl
@[simp] theorem State.drain_opnd (n : Nat) : (s.drain n).opnd = s.opnd := rfl
@[simp] theorem State.drain_lastSeen (n : Nat) : (s.drain n).lastSeen = s.lastSeen := rfl
@[simp] theorem State.drain_op (n : Nat) : (s.drain n).op = s.op := rfl
@[simp] theorem State.drain_transDone (n : Nat) : (s.drain n).transDone = s.transDone := rfl
@[simp] theorem State.drain_attempts (n : Nat) : (s.drain n).attempts = s.attempts := rfl
@[simp] theorem State.drain_pollMet (n : Nat) : (s.drain n).pollMet = s.pollMet := rfl
@[simp] theorem State.drain_outcome (n : Nat) : (s.drain n).outcome = s.outcome := rfl
@[simp] theorem State.drain_txn (n : Nat) : (s.drain n).txn = s.txn := rfl
@[simp] theorem State.drain_cool (n : Nat) : (s.drain n).cool = s.cool := rfl
@[simp] theorem State.drain_rcool (n : Nat) : (s.drain n).rcool = s.rcool := rfl
@[simp] theorem State.drain_rbuf (n : Nat) : (s.drain n).rbuf = s.rbuf.drop n := rfl
@[simp] theorem State.drain_resid (n : Nat) : (s.drain n).resid = s.resid := rfl
@[simp] theorem State.drain_ip (n : Nat) : (s.drain n).ip = s.ip := rfl
@[simp] theorem State.drain_fstate (n : Nat) : (s.drain n).fstate = s.fstate := rfl
@[simp] theorem State.drain_frontEnd (n : Nat) : (s.drain n).frontEnd = s.frontEnd := rfl
@[simp] theorem State.drain_params (n : Nat) : (s.drain n).params = s.params := rfl
@[simp] theorem State.drain_store (n : Nat) : (s.drain n).store = s.store := rfl
@[simp] theorem State.drain_inputs (n : Nat) : (s.drain n).inputs = s.inputs := rfl
@[simp] theorem State.drain_now (n : Nat) : (s.drain n).now = s.now := rfl
@[simp] theorem State.drain_running (n : Nat) : (s.drain n).running = s.running := rfl

/-! ### step 5 of R161 -/

@[simp] theorem State.setCooldowns_seq (a b : Nat) : (s.setCooldowns a b).seq = s.seq := rfl
@[simp] theorem State.setCooldowns_q (a b : Nat) : (s.setCooldowns a b).q = s.q := rfl
@[simp] theorem State.setCooldowns_acc (a b : Nat) : (s.setCooldowns a b).acc = s.acc := rfl
@[simp] theorem State.setCooldowns_hdr (a b : Nat) : (s.setCooldowns a b).hdr = s.hdr := rfl
@[simp] theorem State.setCooldowns_opnd (a b : Nat) : (s.setCooldowns a b).opnd = s.opnd := rfl
@[simp] theorem State.setCooldowns_lastSeen (a b : Nat) : (s.setCooldowns a b).lastSeen = s.lastSeen := rfl
@[simp] theorem State.setCooldowns_op (a b : Nat) : (s.setCooldowns a b).op = s.op := rfl
@[simp] theorem State.setCooldowns_transDone (a b : Nat) : (s.setCooldowns a b).transDone = s.transDone := rfl
@[simp] theorem State.setCooldowns_attempts (a b : Nat) : (s.setCooldowns a b).attempts = s.attempts := rfl
@[simp] theorem State.setCooldowns_pollMet (a b : Nat) : (s.setCooldowns a b).pollMet = s.pollMet := rfl
@[simp] theorem State.setCooldowns_outcome (a b : Nat) : (s.setCooldowns a b).outcome = s.outcome := rfl
@[simp] theorem State.setCooldowns_txn (a b : Nat) : (s.setCooldowns a b).txn = s.txn := rfl
@[simp] theorem State.setCooldowns_cool (a b : Nat) : (s.setCooldowns a b).cool = decide (0 < a) := rfl
@[simp] theorem State.setCooldowns_rcool (a b : Nat) : (s.setCooldowns a b).rcool = decide (0 < b) := rfl
@[simp] theorem State.setCooldowns_rbuf (a b : Nat) : (s.setCooldowns a b).rbuf = s.rbuf := rfl
@[simp] theorem State.setCooldowns_resid (a b : Nat) : (s.setCooldowns a b).resid = s.resid := rfl
@[simp] theorem State.setCooldowns_ip (a b : Nat) : (s.setCooldowns a b).ip = s.ip := rfl
@[simp] theorem State.setCooldowns_fstate (a b : Nat) : (s.setCooldowns a b).fstate = s.fstate := rfl
@[simp] theorem State.setCooldowns_frontEnd (a b : Nat) : (s.setCooldowns a b).frontEnd = s.frontEnd := rfl
@[simp] theorem State.setCooldowns_params (a b : Nat) : (s.setCooldowns a b).params = s.params := rfl
@[simp] theorem State.setCooldowns_store (a b : Nat) : (s.setCooldowns a b).store = s.store := rfl
@[simp] theorem State.setCooldowns_inputs (a b : Nat) : (s.setCooldowns a b).inputs = s.inputs := rfl
@[simp] theorem State.setCooldowns_now (a b : Nat) : (s.setCooldowns a b).now = s.now := rfl
@[simp] theorem State.setCooldowns_running (a b : Nat) : (s.setCooldowns a b).running = s.running := rfl

/-! ### the passing of a cycle (R9) -/

@[simp] theorem State.advanceTime_seq : (s.advanceTime).seq = s.seq := rfl
@[simp] theorem State.advanceTime_q : (s.advanceTime).q = s.q := rfl
@[simp] theorem State.advanceTime_acc : (s.advanceTime).acc = s.acc := rfl
@[simp] theorem State.advanceTime_hdr : (s.advanceTime).hdr = s.hdr := rfl
@[simp] theorem State.advanceTime_opnd : (s.advanceTime).opnd = s.opnd := rfl
@[simp] theorem State.advanceTime_lastSeen : (s.advanceTime).lastSeen = s.lastSeen := rfl
@[simp] theorem State.advanceTime_op : (s.advanceTime).op = s.op := rfl
@[simp] theorem State.advanceTime_transDone : (s.advanceTime).transDone = s.transDone := rfl
@[simp] theorem State.advanceTime_attempts : (s.advanceTime).attempts = s.attempts := rfl
@[simp] theorem State.advanceTime_pollMet : (s.advanceTime).pollMet = s.pollMet := rfl
@[simp] theorem State.advanceTime_outcome : (s.advanceTime).outcome = s.outcome := rfl
@[simp] theorem State.advanceTime_txn : (s.advanceTime).txn = s.txn := rfl
@[simp] theorem State.advanceTime_cool : (s.advanceTime).cool = s.cool := rfl
@[simp] theorem State.advanceTime_rcool : (s.advanceTime).rcool = s.rcool := rfl
@[simp] theorem State.advanceTime_rbuf : (s.advanceTime).rbuf = s.rbuf := rfl
@[simp] theorem State.advanceTime_resid : (s.advanceTime).resid = s.resid := rfl
@[simp] theorem State.advanceTime_ip : (s.advanceTime).ip = s.ip := rfl
@[simp] theorem State.advanceTime_fstate : (s.advanceTime).fstate = s.fstate := rfl
@[simp] theorem State.advanceTime_frontEnd : (s.advanceTime).frontEnd = s.frontEnd := rfl
@[simp] theorem State.advanceTime_params : (s.advanceTime).params = s.params := rfl
@[simp] theorem State.advanceTime_store : (s.advanceTime).store = s.store := rfl
@[simp] theorem State.advanceTime_inputs : (s.advanceTime).inputs = s.inputs.tail := rfl
@[simp] theorem State.advanceTime_now : (s.advanceTime).now = s.now + 1 := rfl
@[simp] theorem State.advanceTime_running : (s.advanceTime).running = s.running := rfl

/-! ### the registers of the Autonomous Front End -/

@[simp] theorem State.setFetch_seq (i : StoreAddr) (f : FetchState) : (s.setFetch i f).seq = s.seq := rfl
@[simp] theorem State.setFetch_q (i : StoreAddr) (f : FetchState) : (s.setFetch i f).q = s.q := rfl
@[simp] theorem State.setFetch_acc (i : StoreAddr) (f : FetchState) : (s.setFetch i f).acc = s.acc := rfl
@[simp] theorem State.setFetch_hdr (i : StoreAddr) (f : FetchState) : (s.setFetch i f).hdr = s.hdr := rfl
@[simp] theorem State.setFetch_opnd (i : StoreAddr) (f : FetchState) : (s.setFetch i f).opnd = s.opnd := rfl
@[simp] theorem State.setFetch_lastSeen (i : StoreAddr) (f : FetchState) : (s.setFetch i f).lastSeen = s.lastSeen := rfl
@[simp] theorem State.setFetch_op (i : StoreAddr) (f : FetchState) : (s.setFetch i f).op = s.op := rfl
@[simp] theorem State.setFetch_transDone (i : StoreAddr) (f : FetchState) : (s.setFetch i f).transDone = s.transDone := rfl
@[simp] theorem State.setFetch_attempts (i : StoreAddr) (f : FetchState) : (s.setFetch i f).attempts = s.attempts := rfl
@[simp] theorem State.setFetch_pollMet (i : StoreAddr) (f : FetchState) : (s.setFetch i f).pollMet = s.pollMet := rfl
@[simp] theorem State.setFetch_outcome (i : StoreAddr) (f : FetchState) : (s.setFetch i f).outcome = s.outcome := rfl
@[simp] theorem State.setFetch_txn (i : StoreAddr) (f : FetchState) : (s.setFetch i f).txn = s.txn := rfl
@[simp] theorem State.setFetch_cool (i : StoreAddr) (f : FetchState) : (s.setFetch i f).cool = s.cool := rfl
@[simp] theorem State.setFetch_rcool (i : StoreAddr) (f : FetchState) : (s.setFetch i f).rcool = s.rcool := rfl
@[simp] theorem State.setFetch_rbuf (i : StoreAddr) (f : FetchState) : (s.setFetch i f).rbuf = s.rbuf := rfl
@[simp] theorem State.setFetch_resid (i : StoreAddr) (f : FetchState) : (s.setFetch i f).resid = s.resid := rfl
@[simp] theorem State.setFetch_ip (i : StoreAddr) (f : FetchState) : (s.setFetch i f).ip = i := rfl
@[simp] theorem State.setFetch_fstate (i : StoreAddr) (f : FetchState) : (s.setFetch i f).fstate = f := rfl
@[simp] theorem State.setFetch_frontEnd (i : StoreAddr) (f : FetchState) : (s.setFetch i f).frontEnd = s.frontEnd := rfl
@[simp] theorem State.setFetch_params (i : StoreAddr) (f : FetchState) : (s.setFetch i f).params = s.params := rfl
@[simp] theorem State.setFetch_store (i : StoreAddr) (f : FetchState) : (s.setFetch i f).store = s.store := rfl
@[simp] theorem State.setFetch_inputs (i : StoreAddr) (f : FetchState) : (s.setFetch i f).inputs = s.inputs := rfl
@[simp] theorem State.setFetch_now (i : StoreAddr) (f : FetchState) : (s.setFetch i f).now = s.now := rfl
@[simp] theorem State.setFetch_running (i : StoreAddr) (f : FetchState) : (s.setFetch i f).running = s.running := rfl

/-! ### the end of a cycle (R161 steps 1 and 5) -/

@[simp] theorem endCycle_seq (h : Nat) : (endCycle h s t).seq = t.seq := rfl
@[simp] theorem endCycle_q (h : Nat) : (endCycle h s t).q = t.q := rfl
@[simp] theorem endCycle_acc (h : Nat) : (endCycle h s t).acc = t.acc := rfl
@[simp] theorem endCycle_hdr (h : Nat) : (endCycle h s t).hdr = t.hdr := rfl
@[simp] theorem endCycle_opnd (h : Nat) : (endCycle h s t).opnd = t.opnd := rfl
@[simp] theorem endCycle_lastSeen (h : Nat) : (endCycle h s t).lastSeen = t.lastSeen := rfl
@[simp] theorem endCycle_op (h : Nat) : (endCycle h s t).op = t.op := rfl
@[simp] theorem endCycle_transDone (h : Nat) : (endCycle h s t).transDone = t.transDone := rfl
@[simp] theorem endCycle_attempts (h : Nat) : (endCycle h s t).attempts = t.attempts := rfl
@[simp] theorem endCycle_pollMet (h : Nat) : (endCycle h s t).pollMet = t.pollMet := rfl
@[simp] theorem endCycle_outcome (h : Nat) : (endCycle h s t).outcome = t.outcome := rfl
@[simp] theorem endCycle_txn (h : Nat) : (endCycle h s t).txn = t.txn := rfl
@[simp] theorem endCycle_cool (h : Nat) : (endCycle h s t).cool = decide (0 < consumedOf h s) := rfl
@[simp] theorem endCycle_rcool (h : Nat) : (endCycle h s t).rcool = decide (0 < s.rvalid) := rfl
@[simp] theorem endCycle_rbuf (h : Nat) : (endCycle h s t).rbuf = t.rbuf.drop s.rvalid := rfl
@[simp] theorem endCycle_resid (h : Nat) : (endCycle h s t).resid = t.resid := rfl
@[simp] theorem endCycle_ip (h : Nat) : (endCycle h s t).ip = s.nextIp := rfl
@[simp] theorem endCycle_fstate (h : Nat) : (endCycle h s t).fstate = s.nextFetch := rfl
@[simp] theorem endCycle_frontEnd (h : Nat) : (endCycle h s t).frontEnd = t.frontEnd := rfl
@[simp] theorem endCycle_params (h : Nat) : (endCycle h s t).params = t.params := rfl
@[simp] theorem endCycle_store (h : Nat) : (endCycle h s t).store = t.store := rfl
@[simp] theorem endCycle_inputs (h : Nat) : (endCycle h s t).inputs = t.inputs.tail := rfl
@[simp] theorem endCycle_now (h : Nat) : (endCycle h s t).now = t.now + 1 := rfl
@[simp] theorem endCycle_running (h : Nat) : (endCycle h s t).running = t.running := rfl

end Sys2Proof.Machine
end

