-- ==== Sys2Proof/Laws/Ops.lean ====
section
/-! SUPPORT. For each shared operation, what it can do, said once: later proofs cite these lemmas and do not unfold the
operation again. -/

namespace Sys2Proof.Machine

/-! ### byte lists and operands -/

@[simp] theorem bytesLE_length (v n : Nat) : (bytesLE v n).length = n := by
  induction n generalizing v with
  | zero => rfl
  | succ n ih => simp [bytesLE, ih]

theorem count_le_six {c : BitVec 3} (h : c ≠ 7#3) : c.toNat ≤ 6 := by
  have h1 : c.toNat < 8 := c.isLt
  have h2 : c.toNat ≠ 7 := fun e => h (BitVec.eq_of_toNat_eq (by simpa using e))
  omega

/-- A payload command brings as many bytes as its count says. -/
theorem payloadBytes_length {c : BitVec 3} (d : BitVec 48) (h : c ≠ 7#3) :
    (payloadBytes c d).length = c.toNat := by
  have := count_le_six h
  simp only [payloadBytes, List.length_take, bytesLE_length]
  omega

/-! ### flags and pulses -/

/-- A consumption pulse is at most three bytes, fits the queue and the group, and needs the cooldown to be over. -/
theorem pulseSize_le (s : State) (a b : Nat) :
    pulseSize s a b ≤ 3 ∧ pulseSize s a b ≤ s.q.length ∧ pulseSize s a b ≤ b - a := by
  unfold pulseSize
  split <;> simp [Config.maxPulse]

theorem pulseSize_cool {s : State} (h : s.cool = true) (a b : Nat) : pulseSize s a b = 0 := by
  simp [pulseSize, h]

/-- With the cooldown over, bytes in the queue and a group short of bytes, a pulse takes at least one byte. -/
theorem pulseSize_pos {s : State} {a b : Nat} (h : s.cool = false) (hq : s.q ≠ []) (hab : a < b) :
    0 < pulseSize s a b := by
  have := List.length_pos_iff.2 hq
  simp only [pulseSize, h, hq, ne_eq, not_false_eq_true, and_self, if_true, Config.maxPulse]
  omega

theorem rvalid_le (s : State) : s.rvalid ≤ 3 ∧ s.rvalid ≤ s.rbuf.length := by
  unfold State.rvalid
  split <;> simp [Config.maxPulse]

theorem canAccept_iff (s : State) :
    s.canAccept = true ↔ s.txn = none ∧ s.seq ≠ .completing ∧ (s.running = true → s.lastSeen = false) := by
  unfold State.canAccept
  cases s.txn <;> cases s.running <;> cases s.lastSeen <;> simp

theorem accepted_iff (s : State) (w : CmdWord) :
    s.accepted = some w ↔ s.canAccept = true ∧ s.presented = some w := by
  unfold State.accepted
  split <;> simp_all

theorem accepted_none_of_not_canAccept {s : State} (h : s.canAccept = false) : s.accepted = none := by
  simp [State.accepted, h]

/-! ### outcomes -/

theorem andThen_next {r : Result} {f : State → Result} {t : State} :
    andThen r f = .next t ↔ ∃ u, r = .next u ∧ f u = .next t := by
  cases r <;> simp [andThen]

@[simp] theorem andThen_of_next (u : State) (f : State → Result) : andThen (.next u) f = f u := rfl

/-! ### commands -/

/-- Every command word is one of the eight commands, with the count and the data of its fields. -/
theorem decodeCmd_cases (w : CmdWord) :
    decodeCmd w = .idle (w.extractLsb' 48 3) (w.extractLsb' 0 48) ∨
    decodeCmd w = .start (w.extractLsb' 48 3) (w.extractLsb' 0 48) ∨
    decodeCmd w = .startclr (w.extractLsb' 48 3) (w.extractLsb' 0 48) ∨
    decodeCmd w = .data (w.extractLsb' 48 3) (w.extractLsb' 0 48) ∨
    decodeCmd w = .datalast (w.extractLsb' 48 3) (w.extractLsb' 0 48) ∨
    decodeCmd w = .illegal5 (w.extractLsb' 48 3) (w.extractLsb' 0 48) ∨
    decodeCmd w = .illegal6 (w.extractLsb' 48 3) (w.extractLsb' 0 48) ∨
    decodeCmd w = .illegal7 (w.extractLsb' 48 3) (w.extractLsb' 0 48) := by
  unfold decodeCmd
  simp only
  split <;> simp

/-- What an accepted command can do: nothing, open a run, append payload in one, or fail. -/
theorem command_cases (w : CmdWord) (s : State) :
    (∃ c d, decodeCmd w = .idle c d ∧ exec (decodeCmd w) s = .next s) ∨
    (∃ c d, decodeCmd w = .start c d ∧ s.running = false ∧ exec (decodeCmd w) s = .next s.openRun) ∨
    (∃ c d, decodeCmd w = .startclr c d ∧ s.running = false ∧
      exec (decodeCmd w) s = .next { s.openRun with resid := none }) ∨
    (∃ c d, decodeCmd w = .data c d ∧ c ≠ 7#3 ∧ s.running = true ∧ exec (decodeCmd w) s = .next (s.append c d)) ∨
    (∃ c d, decodeCmd w = .datalast c d ∧ c ≠ 7#3 ∧ s.running = true ∧
      exec (decodeCmd w) s = .next { s.append c d with lastSeen := true }) ∨
    (∃ cause, cause ≠ .pollExhausted ∧ exec (decodeCmd w) s = .next (s.fail cause)) := by
  rcases decodeCmd_cases w with h | h | h | h | h | h | h | h <;> rw [h] <;>
    simp only [exec, execIdle, execStart, execStartclr, execData, execDatalast, execIllegal5, execIllegal6,
      execIllegal7, startCommand, payloadCommand, illegalCommand]
  · exact .inl ⟨_, _, rfl, trivial⟩
  · cases hr : s.running
    · exact .inr (.inl ⟨_, _, rfl, rfl, by simp⟩)
    · exact .inr (.inr (.inr (.inr (.inr ⟨.incompleteOperation, by decide, by simp⟩))))
  · cases hr : s.running
    · exact .inr (.inr (.inl ⟨_, _, rfl, rfl, by simp⟩))
    · exact .inr (.inr (.inr (.inr (.inr ⟨.incompleteOperation, by decide, by simp⟩))))
  · by_cases hc : w.extractLsb' 48 3 = 7#3
    · exact .inr (.inr (.inr (.inr (.inr ⟨.invalidByteCount, by decide, by rw [if_pos hc]⟩))))
    · cases hr : s.running
      · exact .inr (.inr (.inr (.inr (.inr ⟨.incompleteOperation, by decide, by rw [if_neg hc]; simp⟩))))
      · exact .inr (.inr (.inr (.inl ⟨_, _, rfl, hc, rfl, by rw [if_neg hc]; simp⟩)))
  · by_cases hc : w.extractLsb' 48 3 = 7#3
    · exact .inr (.inr (.inr (.inr (.inr ⟨.invalidByteCount, by decide, by rw [if_pos hc]⟩))))
    · cases hr : s.running
      · exact .inr (.inr (.inr (.inr (.inr ⟨.incompleteOperation, by decide, by rw [if_neg hc]; simp⟩))))
      · exact .inr (.inr (.inr (.inr (.inl ⟨_, _, rfl, hc, rfl, by rw [if_neg hc]; simp⟩))))
  all_goals exact .inr (.inr (.inr (.inr (.inr ⟨.malformedOpcode, by decide, rfl⟩))))

/-! ### the actions of an operation -/

/-- What a transaction on the bus can do in a cycle (R155): wait, fail, or retire. -/
theorem onBus_cases (o : Operation) (b : BusResp) (s : State) :
    (b.ready = false ∧ s.onBus o b = s) ∨
    (b.ready = true ∧ b.err = true ∧ s.onBus o b = s.fail .busFault) ∨
    (b.ready = true ∧ b.err = false ∧ s.onBus o b = s.retireOk o b.rdata) := by
  unfold State.onBus
  cases b.ready <;> cases b.err <;> simp

/-- What retirement does, by kind (R165). -/
theorem retireOk_cases (o : Operation) (v : Word) (s : State) :
    (o.kind = .read ∧ s.retireOk o v = s.retireRead v o.rbytes) ∨
    (o.kind = .write ∧ s.retireOk o v = s.retireWrite) ∨
    (o.kind = .poll ∧ s.retireOk o v = s.retirePoll v o.budget) := by
  unfold State.retireOk
  cases o.kind <;> simp

/-- What happens with the bus idle (R156): leave for `Completing`, wait for `data-last`, consume, or issue. -/
theorem offBus_cases (o : Operation) (s : State) :
    (opDone o s = true ∧ s.lastSeen = true ∧ s.offBus o = { s with seq := .completing }) ∨
    (opDone o s = true ∧ s.lastSeen = false ∧ s.offBus o = s) ∨
    (opDone o s = false ∧ s.opnd.length < opNeed o ∧
      s.offBus o = s.popOpnd (pulseSize s s.opnd.length (opNeed o))) ∨
    (opDone o s = false ∧ opNeed o ≤ s.opnd.length ∧ s.offBus o = s.issue o) := by
  unfold State.offBus
  cases opDone o s <;> cases s.lastSeen <;> by_cases h : s.opnd.length < opNeed o <;> simp [h] <;> omega

/-- What `Completing` does (R157). -/
theorem complete_cases (s : State) :
    (s.rbuf ≠ [] ∧ s.complete = s) ∨
    (s.rbuf = [] ∧ s.outcome = .pollFail ∧ s.complete = s.enterPollFailed) ∨
    (s.rbuf = [] ∧ s.outcome = .ok ∧ s.complete = s.enterCompleted) := by
  unfold State.complete
  by_cases h : s.rbuf = [] <;> cases s.outcome <;> simp [h]

/-! ### the cycle -/

/-- What the Sequencer's own action can do (R153 to R158): one case for each state, two for `AwaitingAddress` and
`Executing`. -/
theorem sequencer_cases {h : Nat} {dec : State → Result} {s t : State} (hs : sequencer h dec s = .next t) :
    (s.seq = .idle ∧ t = s) ∨
    (s.seq = .awaitingAddress ∧ s.hdr.length = h ∧ dec s = .next t) ∨
    (s.seq = .awaitingAddress ∧ s.hdr.length ≠ h ∧ t = s.popHdr (pulseSize s s.hdr.length h)) ∨
    (s.seq = .executing ∧ ∃ o tx, s.op = some o ∧ s.txn = some tx ∧ t = s.onBus o s.busIn) ∨
    (s.seq = .executing ∧ ∃ o, s.op = some o ∧ s.txn = none ∧ t = s.offBus o) ∨
    (s.seq = .completing ∧ t = s.complete) ∨
    (s.terminal = true ∧ t = s.returnToIdle) := by
  unfold sequencer at hs
  cases hq : s.seq <;> simp only [hq] at hs
  · cases hs; simp
  · split at hs
    · simp_all
    · cases hs; simp_all
  · cases ho : s.op with
    | none => simp [ho] at hs
    | some o =>
      simp only [ho, State.operate, hq, State.execute] at hs
      cases htx : s.txn with
      | none => simp only [htx] at hs; cases hs; simp [State.terminal, hq]
      | some tx => simp only [htx] at hs; cases hs; simp [State.terminal, hq]
  · cases hs; simp
  all_goals cases hs; simp [State.terminal, hq]

/-- The sufficiency check fails the run or does nothing; after it the run is not short (R132). -/
theorem checkSufficient_cases (h : Nat) (s : State) :
    (insufficient h s = true ∧ s.checkSufficient h = s.fail .incompleteOperation) ∨
    (insufficient h s = false ∧ s.checkSufficient h = s) := by
  unfold State.checkSufficient
  cases insufficient h s <;> simp

theorem insufficient_running {h : Nat} {s : State} (hs : insufficient h s = true) :
    s.running = true ∧ s.lastSeen = true := by
  unfold insufficient at hs
  cases hr : s.running <;> cases hl : s.lastSeen <;> simp_all

/-- What a cycle can do (R161): the Sequencer's action, then the accepted command if there is one, then the sufficiency
check and the end of the cycle. -/
theorem cycle_cases {h : Nat} {dec : State → Result} {s t : State} (hc : cycle h dec s = .next t) :
    ∃ u v, sequencer h dec s = .next u ∧
      ((s.accepted = none ∧ v = u) ∨ ∃ w, s.accepted = some w ∧ exec (decodeCmd w) u = .next v) ∧
      t = endCycle h s (v.checkSufficient h) := by
  obtain ⟨c, h1, h2⟩ := andThen_next.1 hc
  obtain ⟨v, h3, h4⟩ := andThen_next.1 h1
  obtain ⟨u, h5, h6⟩ := andThen_next.1 h3
  cases h4
  cases h2
  refine ⟨u, v, h5, ?_, rfl⟩
  cases ha : s.accepted with
  | none => simp only [ha, Option.map, commandAction] at h6; cases h6; exact .inl ⟨rfl, rfl⟩
  | some w => simp only [ha, Option.map, commandAction] at h6; exact .inr ⟨w, rfl, h6⟩

/-! ### the front end -/

/-- What the fetch registers do in a cycle of the autonomous instance (R241 to R243). -/
theorem nextFetch_cases {s : State} (h : s.frontEnd = .autonomous) :
    (s.fstate = .noFetch ∧ s.nextIp = s.ip ∧
      s.nextFetch = if s.canAccept then .pending s.params.fetchLatency else .noFetch) ∨
    (∃ k, s.fstate = .pending k ∧ 1 < k ∧ s.nextIp = s.ip ∧ s.nextFetch = .pending (k - 1)) ∨
    (∃ k, s.fstate = .pending k ∧ k ≤ 1 ∧ s.nextIp = s.ip + 1#16 ∧
      s.nextFetch = .held (Memory.read s.store s.ip.toNat)) ∨
    (∃ w, s.fstate = .held w ∧ s.nextIp = s.ip ∧ s.nextFetch = if s.canAccept then .noFetch else .held w) := by
  unfold State.nextFetch State.nextIp
  rw [h]
  cases hf : s.fstate with
  | noFetch => simp
  | pending k => by_cases hk : 1 < k <;> simp [hk] ; omega
  | held w => simp

/-- The stream-fed instance keeps the two fields it does not have. -/
theorem nextFetch_stream {s : State} (h : s.frontEnd = .stream) : s.nextIp = s.ip ∧ s.nextFetch = s.fstate := by
  simp [State.nextFetch, State.nextIp, h]

end Sys2Proof.Machine
end

