-- ==== Sys2Proof/Laws/PerInstr.lean ====
section
/-! SUPPORT. A statement made for each instruction: the bits its encoding has under its row's mask are its row's match
(R106; spec/opcode_table.json). -/

namespace Sys2Proof.Laws.RowMatch

/-- The mask of the row (opcode_table.json): bits 53:51 of a command word, bits 1:0 of a header word. -/
def mask : Instr → Nat
  | .idle _ _ => 0x38000000000000
  | .start _ _ => 0x38000000000000
  | .startclr _ _ => 0x38000000000000
  | .data _ _ => 0x38000000000000
  | .datalast _ _ => 0x38000000000000
  | .illegal5 _ _ => 0x38000000000000
  | .illegal6 _ _ => 0x38000000000000
  | .illegal7 _ _ => 0x38000000000000
  | .rd _ => 0x00000003
  | .wz _ => 0x00000003
  | .poll _ => 0x00000003
  | .wr _ => 0x00000003

/-- The match of the row (opcode_table.json). -/
def pattern : Instr → Nat
  | .idle _ _ => 0x00000000000000
  | .start _ _ => 0x08000000000000
  | .startclr _ _ => 0x10000000000000
  | .data _ _ => 0x18000000000000
  | .datalast _ _ => 0x20000000000000
  | .illegal5 _ _ => 0x28000000000000
  | .illegal6 _ _ => 0x30000000000000
  | .illegal7 _ _ => 0x38000000000000
  | .rd _ => 0x00000000
  | .wz _ => 0x00000001
  | .poll _ => 0x00000002
  | .wr _ => 0x00000003

/-- The encoding of the instruction selects its row of the opcode table. -/
def Statement (i : Instr) : Prop := encodeNat i &&& mask i = pattern i

theorem append_and_append {m n : Nat} (a b : BitVec m) (c d : BitVec n) :
    (a ++ c) &&& (b ++ d) = (a &&& b) ++ (c &&& d) := by
  ext i h
  simp only [BitVec.getElem_and, BitVec.getElem_append]
  split <;> simp

theorem and_ones_three (a : BitVec 3) : a &&& 7#3 = a := BitVec.and_allOnes

theorem and_ones_two (a : BitVec 2) : a &&& 3#2 = a := BitVec.and_allOnes

theorem cmdWord_and_mask (op c : BitVec 3) (d : BitVec 48) :
    cmdWord op c d &&& 0x38000000000000#54 = cmdWord op 0#3 0#48 := by
  have m : (0x38000000000000#54 : BitVec 54) = cmdWord 7#3 0#3 0#48 := by decide
  rw [m]
  unfold cmdWord
  rw [append_and_append, append_and_append, and_ones_three]
  simp

theorem hdrWord_and_mask (a : Word) (k : BitVec 2) : hdrWord a k &&& 0x00000003#32 = hdrWord 0#32 k := by
  have m : (0x00000003#32 : BitVec 32) = hdrWord 0#32 3#2 := by decide
  rw [m]
  unfold hdrWord
  rw [append_and_append, and_ones_two]
  simp

theorem cmd_statement (op c : BitVec 3) (d : BitVec 48) :
    (cmdWord op c d).toNat &&& 0x38000000000000 = (cmdWord op 0#3 0#48).toNat := by
  rw [← cmdWord_and_mask op c d, BitVec.toNat_and]
  rfl

theorem hdr_statement (a : Word) (k : BitVec 2) : (hdrWord a k).toNat &&& 0x00000003 = (hdrWord 0#32 k).toNat := by
  rw [← hdrWord_and_mask a k, BitVec.toNat_and]
  rfl

theorem idle (count : BitVec 3) (data : BitVec 48) : Statement (.idle count data) := cmd_statement 0#3 count data
theorem start (count : BitVec 3) (data : BitVec 48) : Statement (.start count data) := cmd_statement 1#3 count data
theorem startclr (count : BitVec 3) (data : BitVec 48) : Statement (.startclr count data) :=
  cmd_statement 2#3 count data
theorem data (count : BitVec 3) (data : BitVec 48) : Statement (.data count data) := cmd_statement 3#3 count data
theorem datalast (count : BitVec 3) (data : BitVec 48) : Statement (.datalast count data) :=
  cmd_statement 4#3 count data
theorem illegal5 (count : BitVec 3) (data : BitVec 48) : Statement (.illegal5 count data) :=
  cmd_statement 5#3 count data
theorem illegal6 (count : BitVec 3) (data : BitVec 48) : Statement (.illegal6 count data) :=
  cmd_statement 6#3 count data
theorem illegal7 (count : BitVec 3) (data : BitVec 48) : Statement (.illegal7 count data) :=
  cmd_statement 7#3 count data
theorem rd (addr : Word) : Statement (.rd addr) := hdr_statement addr 0#2
theorem wz (addr : Word) : Statement (.wz addr) := hdr_statement addr 1#2
theorem poll (addr : Word) : Statement (.poll addr) := hdr_statement addr 2#2
theorem wr (addr : Word) : Statement (.wr addr) := hdr_statement addr 3#2

end Sys2Proof.Laws.RowMatch
end

