-- ==== Sys2Proof/Tests/Slice0.lean ====
section
/-! SUPPORT. The model's own tests: ill-formed terms refused, words of the spec's encoding vectors decoded, the single steps
of the spec's vector V14, and for every obligation with hypotheses a concrete state that meets them. The expected values of
the decode and step tests are those of spec/95_test_vectors.md (E1 to E4, V14), computed there from the rules. -/

namespace Sys2Proof.Tests

open Sys2Proof.Machine

/-! ### Ill-formed terms are refused -/

theorem test_wellFormed_refuses_rd_bit0 : (Instr.rd 0x00001001#32).wellFormed = false := by decide

theorem test_wellFormed_refuses_wz_bit1 : (Instr.wz 0x00001002#32).wellFormed = false := by decide

theorem test_wellFormed_refuses_poll_bits : (Instr.poll 0xFFFFFFFF#32).wellFormed = false := by decide

theorem test_wellFormed_refuses_wr_bit0 : (Instr.wr 0x00000001#32).wellFormed = false := by decide

theorem test_legal_refuses_count_seven :
    (Instr.data 7#3 0#48).legal = false ∧ (Instr.datalast 7#3 0#48).legal = false ∧ (Instr.data 6#3 0#48).legal = true := by
  decide

theorem test_legal_refuses_opcodes_five_to_seven :
    (Instr.illegal5 0#3 0#48).legal = false ∧ (Instr.illegal6 0#3 0#48).legal = false ∧
    (Instr.illegal7 0#3 0#48).legal = false := by decide

/-- One record for each clause of R190 that it breaks. -/
theorem test_lawful_refuses :
    ({ rdOperation 0#32 with opndLen := 1 } : Operation).lawful = false ∧
    ({ rdOperation 0#32 with rbytes := 5 } : Operation).lawful = false ∧
    ({ rdOperation 0#32 with ntrans := 0 } : Operation).lawful = false ∧
    ({ wrOperation 0#32 with opndLen := 5 } : Operation).lawful = false ∧
    ({ wrOperation 0#32 with rbytes := 1 } : Operation).lawful = false ∧
    ({ wrOperation 0#32 with ntrans := 0 } : Operation).lawful = false ∧
    ({ pollOperation 0#32 1 with opndLen := 4 } : Operation).lawful = false ∧
    ({ pollOperation 0#32 1 with rbytes := 4 } : Operation).lawful = false ∧
    (pollOperation 0#32 0).lawful = false := by decide

/-- An entry out of order, an entry that holds what an unlisted address holds, and an address outside the store. -/
theorem test_memory_wf_refuses :
    Memory.wf [(2, 1#54), (1, 1#54)] = false ∧ Memory.wf [(1, 0#54)] = false ∧ Memory.wf [(65536, 1#54)] = false := by
  decide

/-! ### Words of the spec's encodings decode (E1, E2, E3) -/

theorem test_decode_idle : decodeTableWord 56 0x07BBBBBBBBBBBB = some (.idle 7#3 0xBBBBBBBBBBBB#48) := by decide

theorem test_decode_start : decodeTableWord 56 0x08000000000000 = some (.start 0#3 0#48) := by decide

theorem test_decode_start_ignored_fields : decodeTableWord 56 0x0FAAAAAAAAAAAA = some (.start 7#3 0xAAAAAAAAAAAA#48) := by
  decide

theorem test_decode_startclr : decodeTableWord 56 0x12FFFFFFFFFFFF = some (.startclr 2#3 0xFFFFFFFFFFFF#48) := by decide

theorem test_decode_data : decodeTableWord 56 0x1E060504030201 = some (.data 6#3 0x060504030201#48) := by decide

theorem test_decode_datalast : decodeTableWord 56 0x22000000001234 = some (.datalast 2#3 0x000000001234#48) := by decide

theorem test_decode_illegal :
    decodeTableWord 56 0x28000000000000 = some (.illegal5 0#3 0#48) ∧
    decodeTableWord 56 0x30000000000000 = some (.illegal6 0#3 0#48) ∧
    decodeTableWord 56 0x3FFFFFFFFFFFFF = some (.illegal7 7#3 0xFFFFFFFFFFFF#48) := by decide

theorem test_decode_rd :
    decode [0x78#8, 0x56#8, 0x34#8, 0x12#8] = .ok (.rd 0x12345678#32) ∧
    decode [0xFC#8, 0xFF#8, 0xFF#8, 0xFF#8] = .ok (.rd 0xFFFFFFFC#32) := by decide

theorem test_decode_wz : decode [0x01#8, 0x10#8, 0x00#8, 0x00#8] = .ok (.wz 0x00001000#32) := by decide

theorem test_decode_poll : decode [0x06#8, 0x30#8, 0x00#8, 0x00#8] = .ok (.poll 0x00003004#32) := by decide

theorem test_decode_wr :
    decode [0x03#8, 0x10#8, 0x00#8, 0x00#8] = .ok (.wr 0x00001000#32) ∧
    decode [0xFF#8, 0xFF#8, 0xFF#8, 0xFF#8] = .ok (.wr 0xFFFFFFFC#32) := by decide

theorem test_decode_rejects_by_name :
    decode [0#8, 0#8, 0#8, 0#8, 0#8, 0#8, 0x40#8] = .rejected .bitsAboveCommandWord ∧
    decode [0#8, 0#8, 0#8] = .rejected .notAnInstructionLength ∧ decode [] = .rejected .notAnInstructionLength := by
  decide

/-- Fields and payload bytes of E2: `DATA`, two bytes `00 10`. -/
theorem test_payload_bytes : payloadBytes 2#3 0xFFFFFFFF1000#48 = [0x00#8, 0x10#8] := by decide

/-- E4. -/
theorem test_operand_groups :
    writeDatum [0x78#8, 0x56#8, 0x34#8, 0x12#8] = 0x12345678#32 ∧
    expectMask [0x01#8, 0#8, 0#8, 0x80#8, 0#8, 0#8, 0#8, 0x80#8] = 0x80000001#32 ∧
    expectValue [0x01#8, 0#8, 0#8, 0x80#8, 0#8, 0#8, 0#8, 0x80#8] = 0x80000000#32 := by decide

/-- R192 on the records of E3. -/
theorem test_required :
    required 4 (rdOperation 0#32) = 4 ∧ required 4 (wzOperation 0#32) = 4 ∧ required 4 (pollOperation 0#32 3) = 12 ∧
    required 4 (wrOperation 0#32) = 8 := by decide

/-! ### States the tests start from -/

/-- A request object with nothing in it. -/
def noRequest : Request := { valid := false, payload := 0#54 }

/-- A cycle in which the environment answers nothing. -/
def quiet : Inputs := { bus := { rdata := 0#32, ready := false, err := false }, req := noRequest }

/-- The stream-fed instance after reset, with `L = 2`, `N = 3` and four quiet cycles to come. -/
def base : State :=
  { State.resetOf .stream with
    params := { fetchLatency := 2, pollBudget := 3 }
    inputs := [quiet, quiet, quiet, quiet] }

/-- `s` with the word `w` on the request wires. -/
def offer (w : CmdWord) (s : State) : State :=
  { s with inputs := [{ bus := quiet.bus, req := { valid := true, payload := w } }] }

/-- `s` with this answer on the bus. -/
def answer (rdata : Word) (ready err : Bool) (s : State) : State :=
  { s with inputs := [{ bus := { rdata := rdata, ready := ready, err := err }, req := noRequest }] }

/-- A run that awaits its header: `hdr` consumed, `q` queued. -/
def awaiting (hdr q : List Byte) : State :=
  { base with seq := .awaitingAddress, hdr := hdr, q := q, acc := hdr.length + q.length }

/-- A run that executes the operation of the header `hdr`: `opnd` consumed, `q` queued. -/
def executing (hdr opnd q : List Byte) : State :=
  { base with
    seq := .executing
    hdr := hdr
    opnd := opnd
    q := q
    acc := hdr.length + opnd.length + q.length
    op := some (decodeHeaderDefault 3 hdr) }

/-- Header bytes of the four operations at `0x00001000` (E3). -/
def rdHdr : List Byte := [0x00#8, 0x10#8, 0x00#8, 0x00#8]
def wzHdr : List Byte := [0x01#8, 0x10#8, 0x00#8, 0x00#8]
def pollHdr : List Byte := [0x02#8, 0x10#8, 0x00#8, 0x00#8]
def wrHdr : List Byte := [0x03#8, 0x10#8, 0x00#8, 0x00#8]

/-- Write data `0x12345678` (E4) and the read-expect group of V14: mask 1, value 1. -/
def wrBytes : List Byte := [0x78#8, 0x56#8, 0x34#8, 0x12#8]
def expectBytes : List Byte := [1#8, 0#8, 0#8, 0#8, 1#8, 0#8, 0#8, 0#8]

def readTxn : Txn := { addr := 0x00001000#32, write := false, wdata := 0#32 }
def zeroTxn : Txn := { addr := 0x00001000#32, write := true, wdata := 0#32 }
def writeTxn : Txn := { addr := 0x00001000#32, write := true, wdata := 0x12345678#32 }

def rdRun : State := executing rdHdr [] []
def wzRun : State := executing wzHdr [] []
def wrRun (opnd q : List Byte) : State := executing wrHdr opnd q
def pollRun (opnd q : List Byte) : State := executing pollHdr opnd q

/-- Each operation with its transaction on the bus. -/
def rdOnBus : State := { rdRun with txn := some readTxn }
def wzOnBus : State := { wzRun with txn := some zeroTxn }
def wrOnBus : State := { wrRun wrBytes [] with txn := some writeTxn }
def pollOnBus : State := { pollRun expectBytes [] with txn := some readTxn }

/-- A read in `Completing` with its four bytes to deliver. -/
def readCompleting : State :=
  { rdRun with seq := .completing, lastSeen := true, transDone := 1, rbuf := [0x0D#8, 0xF0#8, 0xFE#8, 0xCA#8] }

/-- A read in the cycle after its retirement, its `data-last` seen, with its four bytes to deliver (V10, t = 10). -/
def readRetired : State :=
  { rdRun with lastSeen := true, transDone := 1, rbuf := [0x0D#8, 0xF0#8, 0xFE#8, 0xCA#8] }

/-- A poll in `Completing` whose budget is used up. -/
def pollExhausted : State :=
  { pollRun expectBytes [] with seq := .completing, lastSeen := true, attempts := 3, outcome := .pollFail }

/-- The autonomous instance after reset, with `L = 2`, `N = 3`, a `start` word at address 0 and four quiet cycles. -/
def autonomous : State :=
  { base with frontEnd := .autonomous, store := [(0, 0x08000000000000#54)] }

/-- The step of `s` answers a next state that passes the test `p`. -/
def stepsTo (s : State) (p : State → Bool) : Bool :=
  match step s with
  | .next t => p t
  | .fault _ => false
  | .refused _ => false

/-! ### The single steps of V14 -/

theorem test_v14_01_cooldown_holds_bytes :
    stepsTo { awaiting [] [1#8, 2#8, 3#8, 4#8] with cool := true } (fun t =>
      t.seq == .awaitingAddress && t.q == [1#8, 2#8, 3#8, 4#8] && t.hdr == [] && t.acc == 4 && !t.cool) = true := by decide

theorem test_v14_02_pulse_completes_header :
    stepsTo (awaiting [1#8, 2#8, 3#8] [4#8, 5#8]) (fun t =>
      t.q == [5#8] && t.hdr == [1#8, 2#8, 3#8, 4#8] && t.acc == 5 && t.cool) = true := by decide

theorem test_v14_03_data_in_a_pulse_cycle :
    stepsTo (offer 0x1A000000000F0E#54 (awaiting [] [0xA#8, 0xB#8, 0xC#8, 0xD#8])) (fun t =>
      t.q == [0xD#8, 0xE#8, 0xF#8] && t.hdr == [0xA#8, 0xB#8, 0xC#8] && t.acc == 6 && t.cool) = true := by decide

theorem test_v14_04_decode_cycle_of_wr :
    stepsTo (awaiting [3#8, 0x20#8, 0#8, 0#8] [0x78#8]) (fun t =>
      t.seq == .executing && t.q == [0x78#8] && t.op == some (wrOperation 0x00002000#32) && !t.cool) = true := by decide

theorem test_v14_05_result_pulse :
    readCompleting.rvalid = 3 ∧ readCompleting.rdata = 0x00FEF00D#32 ∧
    stepsTo readCompleting (fun t => t.seq == .completing && t.rbuf == [0xCA#8] && t.rcool) = true := by decide

theorem test_v14_06_gap_after_result_pulse :
    stepsTo { readCompleting with rbuf := [0xCA#8], rcool := true } (fun t =>
      t.seq == .completing && t.rbuf == [0xCA#8] && !t.rcool) = true := by decide

theorem test_v14_07_last_result_byte :
    stepsTo { readCompleting with rbuf := [0xCA#8] } (fun t => t.seq == .completing && t.rbuf == [] && t.rcool) = true := by
  decide

theorem test_v14_08_poll_met_on_last_attempt :
    stepsTo (answer 1#32 true false { pollOnBus with lastSeen := true, attempts := 2 }) (fun t =>
      t.seq == .executing && t.txn == none && t.attempts == 3 && t.pollMet && t.outcome == .ok) = true := by decide

theorem test_v14_09_poll_budget_used_up :
    stepsTo (answer 0#32 true false { pollOnBus with lastSeen := true, attempts := 2 }) (fun t =>
      t.seq == .executing && t.txn == none && t.attempts == 3 && !t.pollMet && t.outcome == .pollFail) = true := by decide

theorem test_v14_10_error_without_ready :
    stepsTo (answer 1#32 false true { pollOnBus with lastSeen := true }) (fun t =>
      t.seq == .executing && t.txn == some readTxn && t.attempts == 0 && t.resid == none) = true := by decide

theorem test_v14_11_bus_fault :
    stepsTo (answer 1#32 true true { pollOnBus with lastSeen := true }) (fun t =>
      t.seq == .errored && t.txn == none && t.attempts == 0 && t.resid == some .busFault) = true := by decide

theorem test_v14_12_wz_issues :
    stepsTo wzRun (fun t => t.seq == .executing && t.txn == some zeroTxn && t.transDone == 0) = true := by decide

theorem test_v14_13_illegal_word_undoes_the_issue :
    stepsTo (offer 0x30000000000000#54 wzRun) (fun t =>
      t.seq == .errored && t.txn == none && t.resid == some .malformedOpcode) = true := by decide

theorem test_v14_14_done_waits_for_data_last :
    stepsTo { wzRun with transDone := 1 } (fun t => t.seq == .executing && t.transDone == 1 && t.txn == none) = true := by
  decide

theorem test_v14_15_data_last_passes_the_check :
    stepsTo (offer 0x20000000000000#54 { wzRun with transDone := 1 }) (fun t =>
      t.seq == .executing && t.lastSeen && t.resid == none) = true := by decide

theorem test_v14_16_start_in_completed :
    stepsTo (offer 0x08000000000000#54 { base with seq := .completed }) (fun t =>
      t.seq == .awaitingAddress && t.resid == none) = true := by decide

theorem test_v14_17_start_keeps_resid :
    stepsTo (offer 0x08000000000000#54 { base with seq := .pollFailed, resid := some .pollExhausted }) (fun t =>
      t.seq == .awaitingAddress && t.resid == some .pollExhausted) = true := by decide

theorem test_v14_18_startclr_clears_resid :
    stepsTo (offer 0x10000000000000#54 { base with seq := .pollFailed, resid := some .pollExhausted }) (fun t =>
      t.seq == .awaitingAddress && t.resid == none) = true := by decide

theorem test_v14_19_terminal_returns_to_idle :
    stepsTo { base with seq := .pollFailed, resid := some .pollExhausted } (fun t =>
      t.seq == .idle && t.resid == some .pollExhausted) = true := by decide

theorem test_v14_20_poll_failed :
    stepsTo pollExhausted (fun t =>
      t.seq == .pollFailed && t.attempts == 0 && t.outcome == .ok && t.resid == some .pollExhausted) = true := by decide

/-- R193, R165: the read datum `0xCAFEF00D` of V14 row 5, before its first pulse. -/
theorem test_rd_retires :
    stepsTo (answer 0xCAFEF00D#32 true false rdOnBus) (fun t =>
      t.txn == none && t.transDone == 1 && t.rbuf == [0x0D#8, 0xF0#8, 0xFE#8, 0xCA#8]) = true := by decide

/-- R196, R164: four operand bytes become the datum of the write. -/
theorem test_wr_issues :
    stepsTo (wrRun wrBytes []) (fun t => t.txn == some writeTxn && t.opnd == wrBytes) = true := by decide

/-- What the host's question finds: the placed word is accepted, the placed header is decoded. -/
theorem test_placed_instructions_run :
    stepsTo (State.reset.withFetchWord 56 0x08000000000000) (fun t => t.seq == .awaitingAddress) = true ∧
    stepsTo (State.reset.withFetchWord 32 0x00001003) (fun t => t.op == some (wrOperation 0x00001000#32)) = true := by
  refine ⟨rfl, rfl⟩

/-! ### Witnesses: a check that decides the invariant -/

/-- `OperationInv`, decided. -/
def checkOperation (L : Config.HeaderLayout) (o : Operation) (s : State) : Bool :=
  decide (s.hdr.length = L.hdrLen ∧ o = L.decodeHeader s.hdr) && decide (s.opnd.length ≤ o.opndLen) &&
  decide (s.transDone ≤ o.ntrans) && decide (s.attempts ≤ o.budget) &&
  decide (o.kind = .poll → s.transDone = 0 ∧ s.rbuf = []) &&
  decide (o.kind ≠ .poll → s.attempts = 0 ∧ s.pollMet = false ∧ s.outcome = .ok) &&
  decide (o.kind = .write → s.rbuf = []) && decide (s.rbuf.length ≤ o.rbytes * s.transDone) &&
  decide (o.kind = .poll → (s.outcome = .pollFail ↔ s.pollMet = false ∧ s.attempts = o.budget)) &&
  (match s.txn with
    | none => true
    | some tx => decide (tx = issuedTxn o s ∧ opDone o s = false ∧ s.opnd.length = o.opndLen)) &&
  decide (s.seq = .completing → opDone o s = true)

/-- `Inv L`, decided. -/
def checkInv (L : Config.HeaderLayout) (s : State) : Bool :=
  decide (1 ≤ s.params.fetchLatency ∧ 1 ≤ s.params.pollBudget) && Memory.wf s.store &&
  (match s.fstate with
    | .pending k => decide (1 ≤ k ∧ k ≤ s.params.fetchLatency)
    | .noFetch => true
    | .held _ => true) &&
  decide (s.txn ≠ none → s.seq = .executing) && decide (s.running = false → s.clearRun = s) &&
  decide (s.hdr.length ≤ L.hdrLen) &&
  decide (s.seq = .awaitingAddress →
    s.op = none ∧ s.opnd = [] ∧ s.transDone = 0 ∧ s.attempts = 0 ∧ s.pollMet = false ∧ s.outcome = .ok ∧ s.rbuf = []) &&
  (match s.op with
    | some o => decide (s.seq = .executing ∨ s.seq = .completing → checkOperation L o s = true)
    | none => decide (¬ (s.seq = .executing ∨ s.seq = .completing))) &&
  decide (s.seq = .completing → s.lastSeen = true) &&
  decide (s.acc = s.hdr.length + s.q.length + s.opnd.length +
    (match s.op with | some o => s.transDone * o.opndLen | none => 0)) &&
  !insufficient L.hdrLen s

theorem operationInv_of_check {L : Config.HeaderLayout} {o : Operation} {s : State} (h : checkOperation L o s = true) :
    OperationInv L o s := by
  simp only [checkOperation, Bool.and_eq_true, decide_eq_true_eq, and_assoc] at h
  obtain ⟨h1, h1', h2, h3, h4, h5, h6, h7, h8, h9, h10, h11⟩ := h
  refine ⟨⟨h1, h1'⟩, h2, h3, h4, h5, h6, h7, h8, h9, fun tx htx => ?_, h11⟩
  simpa [htx] using h10

theorem inv_of_check {L : Config.HeaderLayout} {s : State} (h : checkInv L s = true) : Inv L s := by
  simp only [checkInv, Bool.and_eq_true, decide_eq_true_eq, and_assoc, Bool.not_eq_true'] at h
  obtain ⟨h1, h1', h2, h3, h4, h5, h6, h7, h8, h9, h10, h11⟩ := h
  refine ⟨⟨h1, h1'⟩, h2, fun k hk => by simpa [hk] using h3, h4, h5, h6, h7, fun hq => ?_, h9, h10, h11⟩
  cases ho : s.op with
  | none => simp [ho] at h8; tauto
  | some o => exact ⟨o, rfl, operationInv_of_check (by simpa [ho, hq] using h8)⟩

theorem machineInv_of_check {s : State} (h : checkInv (hlDefault s.params.pollBudget) s = true) : MachineInv s :=
  inv_of_check h

/-! ### Witnesses, one for each obligation that has hypotheses -/

theorem witness_ResetStateHoldsTheTable : State.reset = State.reset ∧ State.resetOf .stream = State.resetOf .stream :=
  ⟨rfl, rfl⟩

theorem witness_StepRunsAcceptedCommand :
    (offer 0x08000000000000#54 base).accepted = some 0x08000000000000#54 ∧
    State.accepted { autonomous with fstate := .held 0x3FFFFFFFFFFFFF#54 } = some 0x3FFFFFFFFFFFFF#54 := by decide

theorem witness_StepRunsInstructionOfHeader :
    ((awaiting wrHdr []).seq = .awaitingAddress ∧ (awaiting wrHdr []).hdr.length = 4 ∧ (awaiting wrHdr []).accepted = none) ∧
    (rdRun.seq = .executing ∧ rdRun.accepted = none ∧ rdRun.op = some (rdOperation 0x00001000#32)) ∧
    (readCompleting.seq = .completing ∧ readCompleting.accepted = none ∧
      readCompleting.op = some (rdOperation 0x00001000#32)) ∧
    (wzRun.seq = .executing ∧ wzRun.accepted = none ∧ wzRun.op = some (wzOperation 0x00001000#32)) ∧
    (wrOnBus.seq = .executing ∧ wrOnBus.accepted = none ∧ wrOnBus.op = some (wrOperation 0x00001000#32)) ∧
    (pollOnBus.seq = .executing ∧ pollOnBus.accepted = none ∧
      pollOnBus.op = some (pollOperation 0x00001000#32 pollOnBus.params.pollBudget)) ∧
    (offer 0x24000044332211#54 (awaiting wrHdr [])).accepted = some 0x24000044332211#54 ∧
    (offer 0x20000000000000#54 rdRun).accepted = some 0x20000000000000#54 := by decide

theorem witness_AcceptedCommandSeesStartOfCycle :
    rdRun.canAccept = true ∧ ∃ t, sequencerAction rdRun = .next t := ⟨by decide, _, rfl⟩

theorem witness_DecodeOfEncodeIsIdentity :
    (Instr.data 7#3 0xFFFFFFFFFFFF#48).wellFormed = true ∧ (Instr.rd 0#32).wellFormed = true ∧
    (Instr.wz 0xFFFFFFFC#32).wellFormed = true ∧ (Instr.poll 0x00003004#32).wellFormed = true ∧
    (Instr.wr 0xFFFFFFFC#32).wellFormed = true := by decide

theorem witness_TableRowsSelectInstructions :
    0x07BBBBBBBBBBBB#54 &&& 0x38000000000000#54 = 0x00000000000000#54 ∧
    0x0FAAAAAAAAAAAA#54 &&& 0x38000000000000#54 = 0x08000000000000#54 ∧
    0x12FFFFFFFFFFFF#54 &&& 0x38000000000000#54 = 0x10000000000000#54 ∧
    0x1E060504030201#54 &&& 0x38000000000000#54 = 0x18000000000000#54 ∧
    0x21FFFFFFFFFFA1#54 &&& 0x38000000000000#54 = 0x20000000000000#54 ∧
    0x28000000000000#54 &&& 0x38000000000000#54 = 0x28000000000000#54 ∧
    0x30000000000000#54 &&& 0x38000000000000#54 = 0x30000000000000#54 ∧
    0x3FFFFFFFFFFFFF#54 &&& 0x38000000000000#54 = 0x38000000000000#54 ∧
    0xFFFFFFFC#32 &&& 0x00000003#32 = 0#32 ∧ 0x00001001#32 &&& 0x00000003#32 = 1#32 ∧
    0x00003006#32 &&& 0x00000003#32 = 2#32 ∧ 0xFFFFFFFF#32 &&& 0x00000003#32 = 3#32 := by decide

theorem witness_IdleDoesNothing :
    (0x07BBBBBBBBBBBB#54).extractLsb' 51 3 = 0#3 ∧
    acceptedCommand (offer 0#54 base) = some (.idle 0#3 0#48) ∧
    (acceptedCommand (offer 0#54 { base with seq := .errored }) = some (.idle 0#3 0#48) ∧
      State.terminal { base with seq := .errored } = true) ∧
    (State.running { awaiting [] wrHdr with lastSeen := true } = true) := by decide

theorem witness_StartOpensRunOrRaises :
    base.running = false ∧ State.running { base with seq := .completed } = false ∧ rdOnBus.running = true := by decide

theorem witness_StartclrOpensRunAndClearsResid :
    (0x12FFFFFFFFFFFF#54).extractLsb' 51 3 = 2#3 ∧ base.running = false ∧ (∃ t, exec (.start 0#3 0#48) base = .next t) ∧
    readCompleting.running = true ∧ State.terminal { base with seq := .pollFailed } = true ∧
    acceptedCommand (offer 0x10000000000000#54 { base with seq := .pollFailed }) = some (.startclr 0#3 0#48) ∧
    (∃ t, step (offer 0x10000000000000#54 { base with resid := some .busFault }) = .next t ∧ t.resid = none) :=
  ⟨by decide, by decide, ⟨_, rfl⟩, by decide, by decide, by decide, _, rfl, by decide⟩

theorem witness_DataAppendsPayload :
    (0x1F060504030201#54).extractLsb' 51 3 = 3#3 ∧ (6#3 : BitVec 3) ≠ 7#3 ∧ (0#3 : BitVec 3) ≠ 7#3 ∧
    (awaiting [] []).running = true ∧ base.running = false ∧
    (State.running { awaiting [] wrHdr with lastSeen := true } = true ∧
      State.lastSeen { awaiting [] wrHdr with lastSeen := true } = true) := by decide

theorem witness_DatalastAppendsAndMarksEnd :
    (6#3 : BitVec 3) ≠ 7#3 ∧ (0#3 : BitVec 3) ≠ 7#3 ∧ rdRun.running = true ∧ State.running { base with seq := .errored } = false := by
  decide

theorem witness_IllegalOpcodesRaise :
    (offer 0x28000000000000#54 base).accepted = some 0x28000000000000#54 ∧
    5 ≤ ((0x28000000000000#54).extractLsb' 51 3).toNat ∧ base.seq ≠ .executing ∧
    (offer 0x3FFFFFFFFFFFFF#54 rdRun).accepted = some 0x3FFFFFFFFFFFFF#54 ∧
    5 ≤ ((0x3FFFFFFFFFFFFF#54).extractLsb' 51 3).toNat ∧ rdRun.op ≠ none := by decide

theorem witness_AcceptedCountSevenEndsRun :
    (offer 0x1F060504030201#54 base).accepted = some 0x1F060504030201#54 ∧
    (0x1F060504030201#54).extractLsb' 51 3 = 3#3 ∧ (0x1F060504030201#54).extractLsb' 48 3 = 7#3 ∧
    (offer 0x27000000000000#54 rdRun).accepted = some 0x27000000000000#54 ∧
    (0x27000000000000#54).extractLsb' 51 3 = 4#3 ∧ (0x27000000000000#54).extractLsb' 48 3 = 7#3 ∧
    rdRun.op ≠ none := by decide

theorem witness_FailClearsRunAndSavesCause :
    ∃ t, step (answer 0#32 true true rdOnBus) = .next t ∧ t.seq = .errored := ⟨_, rfl, by decide⟩

theorem witness_BusErrorEndsRun :
    (rdOnBus.seq = .executing ∧ rdOnBus.txn ≠ none ∧ rdOnBus.op ≠ none ∧ (answer 0#32 true true rdOnBus).busIn.ready = true ∧
      (answer 0#32 true true rdOnBus).busIn.err = true) ∧
    (∃ t, step (answer 0#32 false true { rdOnBus with resid := some .busFault }) = .next t ∧
      t.resid = some .busFault) ∧
    (∃ t, step { base with resid := some .busFault } = .next t ∧ base.txn = none ∧ t.resid = some .busFault) :=
  ⟨by decide, ⟨_, rfl, by decide⟩, ⟨_, rfl, by decide, by decide⟩⟩

theorem witness_ShortPayloadAborts :
    (MachineInv (offer 0x20000000000000#54 (awaiting [] [3#8, 0#8, 0#8])) ∧
      acceptedCommand (offer 0x20000000000000#54 (awaiting [] [3#8, 0#8, 0#8])) = some (.datalast 0#3 0#48) ∧
      (awaiting [] [3#8, 0#8, 0#8]).acc + (0#3 : BitVec 3).toNat < 4) ∧
    (MachineInv (offer 0x23000000000000#54 (wrRun [] [])) ∧
      acceptedCommand (offer 0x23000000000000#54 (wrRun [] [])) = some (.datalast 3#3 0#48) ∧
      (wrRun [] []).op = some (wrOperation 0x00001000#32) ∧
      (wrRun [] []).acc + (3#3 : BitVec 3).toNat + 1 = required 4 (wrOperation 0x00001000#32)) ∧
    (MachineInv (offer 0x21000000000000#54 (awaiting [1#8, 2#8, 3#8] [])) ∧
      acceptedCommand (offer 0x21000000000000#54 (awaiting [1#8, 2#8, 3#8] [])) = some (.datalast 1#3 0#48) ∧
      (awaiting [1#8, 2#8, 3#8] []).hdr.length < 4 ∧
      (awaiting [1#8, 2#8, 3#8] []).acc + (1#3 : BitVec 3).toNat = 4) ∧
    (MachineInv (offer 0x24000000000000#54 (wrRun [] [])) ∧
      acceptedCommand (offer 0x24000000000000#54 (wrRun [] [])) = some (.datalast 4#3 0#48) ∧
      required 4 (wrOperation 0x00001000#32) = (wrRun [] []).acc + (4#3 : BitVec 3).toNat) :=
  ⟨⟨machineInv_of_check (by decide), by decide, by decide⟩, ⟨machineInv_of_check (by decide), by decide, by decide, by decide⟩,
    ⟨machineInv_of_check (by decide), by decide, by decide, by decide⟩,
    ⟨machineInv_of_check (by decide), by decide, by decide⟩⟩

/-- The decode cycle of `WR`, which requires eight bytes: `data-last` seen before it with seven and with eight, and accepted
in it with the seventh and with the eighth (the last as in P5, t = 35). -/
theorem witness_ShortPayloadAborts_decodeCycle :
    (awaiting wrHdr []).seq = .awaitingAddress ∧ (awaiting wrHdr []).hdr.length = 4 ∧
    required 4 (decodeHeaderDefault 3 wrHdr) = 8 ∧
    State.acc { awaiting wrHdr [1#8, 2#8, 3#8] with lastSeen := true } = 7 ∧
    State.acc { awaiting wrHdr [1#8, 2#8, 3#8, 4#8] with lastSeen := true } = 8 ∧
    acceptedCommand (offer 0x23000000332211#54 (awaiting wrHdr [])) = some (.datalast 3#3 0x332211#48) ∧
    (awaiting wrHdr []).acc + (3#3 : BitVec 3).toNat = 7 ∧
    acceptedCommand (offer 0x24000044332211#54 (awaiting wrHdr [])) = some (.datalast 4#3 0x44332211#48) ∧
    (awaiting wrHdr []).acc + (4#3 : BitVec 3).toNat = 8 := by decide

theorem witness_DecodeCycleRecordsOperation : (awaiting rdHdr []).seq = .awaitingAddress := by decide

theorem witness_OperationsIssueTheirTransaction :
    (rdRun.seq = .executing ∧ rdRun.txn = none ∧ rdRun.transDone ≠ 1) ∧
    (wzRun.seq = .executing ∧ wzRun.txn = none ∧ wzRun.transDone ≠ 1 ∧ wzRun.opnd = []) ∧
    ((pollRun expectBytes []).pollMet = false ∧ (pollRun expectBytes []).opnd.length = 8 ∧
      State.attempts { pollRun expectBytes [] with attempts := 2 } ≠ (pollRun expectBytes []).params.pollBudget) ∧
    ((wrRun wrBytes []).transDone ≠ 1 ∧ (wrRun wrBytes []).opnd = [0x78#8, 0x56#8, 0x34#8, 0x12#8]) := by decide

theorem witness_OperandGroupIsConsumedInPulses :
    ((awaiting [] wrHdr).seq = .awaitingAddress ∧ (awaiting [] wrHdr).hdr.length < 4 ∧
      (awaiting [1#8, 2#8, 3#8] [4#8, 5#8]).hdr.length = 3) ∧
    ((wrRun [] wrBytes).seq = .executing ∧ (wrRun [] wrBytes).txn = none ∧ (wrRun [] wrBytes).transDone ≠ 1 ∧
      (wrRun [] wrBytes).opnd.length < 4 ∧ (wrRun [1#8, 2#8, 3#8] [4#8]).opnd.length = 3 ∧
      (wrRun [] wrBytes).op = some (wrOperation 0x00001000#32)) ∧
    ((pollRun [] expectBytes).pollMet = false ∧ (pollRun [] expectBytes).attempts ≠ (pollRun [] expectBytes).params.pollBudget ∧
      (pollRun [] expectBytes).opnd.length < 8 ∧ (pollRun (expectBytes.take 7) [0#8]).opnd.length = 7 ∧
      (pollRun [] expectBytes).op = some (pollOperation 0x00001000#32 (pollRun [] expectBytes).params.pollBudget)) := by decide

theorem witness_OutstandingTransactionWaits :
    rdOnBus.seq = .executing ∧ rdOnBus.txn ≠ none ∧ (answer 0xFFFFFFFF#32 false true rdOnBus).busIn.ready = false := by
  decide

theorem witness_ReadsAndWritesRetire :
    (answer 0xCAFEF00D#32 true false rdOnBus).busIn.ready = true ∧
    (answer 0xCAFEF00D#32 true false rdOnBus).busIn.err = false ∧ rdOnBus.txn ≠ none ∧ wrOnBus.txn ≠ none := by decide

theorem witness_PollAttemptTestsCondition :
    pollOnBus.seq = .executing ∧ pollOnBus.txn ≠ none ∧ pollOnBus.opnd = [1#8, 0#8, 0#8, 0#8, 1#8, 0#8, 0#8, 0#8] ∧
    (answer 0xFFFFFFFF#32 true false pollOnBus).busIn.rdata &&& 1#32 = 1#32 ∧
    (answer 0xFFFFFFFE#32 true false pollOnBus).busIn.rdata &&& 1#32 ≠ 1#32 ∧
    State.attempts { pollOnBus with attempts := 2 } + 1 = pollOnBus.params.pollBudget ∧
    State.attempts { pollOnBus with attempts := 1 } + 1 ≠ pollOnBus.params.pollBudget := by decide

theorem witness_DoneOperationAwaitsDataLast :
    (State.transDone { wzRun with transDone := 1 } = 1 ∧ wzRun.seq = .executing ∧ wzRun.txn = none ∧
      State.lastSeen { wzRun with transDone := 1, lastSeen := true } = true ∧ wzRun.lastSeen = false) ∧
    (State.pollMet { pollRun expectBytes [] with attempts := 1, pollMet := true } = true ∧
      State.attempts { pollRun expectBytes [] with attempts := 3 } = (pollRun expectBytes []).params.pollBudget) := by
  decide

theorem witness_CompletingEndsRun :
    (MachineInv readCompleting ∧ readCompleting.seq = .completing ∧ readCompleting.rbuf ≠ []) ∧
    (MachineInv pollExhausted ∧ pollExhausted.rbuf = [] ∧ pollExhausted.outcome = .pollFail) ∧
    (MachineInv { readCompleting with rbuf := [] } ∧ readCompleting.outcome = .ok) :=
  ⟨⟨machineInv_of_check (by decide), by decide, by decide⟩, ⟨machineInv_of_check (by decide), by decide, by decide⟩,
    ⟨machineInv_of_check (by decide), by decide⟩⟩

theorem witness_IdleLeavesOnlyByCommand :
    base.seq = .idle ∧ MachineInv base ∧ acceptedCommand base = none ∧
    acceptedCommand (offer 0x08000000000000#54 base) = some (.start 0#3 0#48) ∧
    acceptedCommand (offer 0x18000000000000#54 base) = some (.data 0#3 0#48) ∧
    acceptedCommand (offer 0#54 base) = some (.idle 0#3 0#48) :=
  ⟨by decide, machineInv_of_check (by decide), by decide, by decide, by decide, by decide⟩

theorem witness_TerminalStateLastsOneCycle :
    MachineInv { base with seq := .completed } ∧ State.terminal { base with seq := .completed } = true ∧
    State.accepted { base with seq := .completed } = none ∧
    acceptedCommand (offer 0x10000000000000#54 { base with seq := .pollFailed }) = some (.startclr 0#3 0#48) ∧
    acceptedCommand (offer 0x20000000000000#54 { base with seq := .errored }) = some (.datalast 0#3 0#48) ∧
    acceptedCommand (offer 0#54 { base with seq := .errored }) = some (.idle 0#3 0#48) :=
  ⟨machineInv_of_check (by decide), by decide, by decide, by decide, by decide, by decide⟩

theorem witness_SeqChangesOnlyAlongTheTable :
    MachineInv readCompleting ∧
    (MachineInv { readCompleting with rbuf := [] } ∧
      ∃ t, step { readCompleting with rbuf := [] } = .next t ∧ t.seq ≠ .completing) ∧
    (MachineInv (awaiting wrHdr []) ∧ ∃ t, step (awaiting wrHdr []) = .next t ∧ t.seq ≠ .awaitingAddress) :=
  ⟨machineInv_of_check (by decide), ⟨machineInv_of_check (by decide), _, rfl, by decide⟩,
    machineInv_of_check (by decide), _, rfl, by decide⟩

/-- The event of the sufficiency check holds where the run is one byte short at its `data-last`, and not where it is not. -/
theorem witness_SeqChangesOnlyAlongTheTable_tooShort :
    ShortOfPayload (offer 0x23000000000000#54 (wrRun [] [])) ∧ ¬ ShortOfPayload (offer 0x24000000000000#54 (wrRun [] [])) := by
  refine ⟨⟨.inr ⟨_, _, rfl⟩, .inr ⟨_, rfl, by decide⟩⟩, ?_⟩
  rintro ⟨_, h | ⟨o, ho, h⟩⟩
  · exact absurd h (by decide)
  · cases ho; exact absurd h (by decide)

theorem witness_StepKeepsInvariant :
    MachineInv (answer 0#32 true false wrOnBus) ∧ ∃ t, step (answer 0#32 true false wrOnBus) = .next t :=
  ⟨machineInv_of_check (by decide), _, rfl⟩

/-- A layout other than the default: a two-byte header, and two writes of one byte each. -/
def twoWrites : Config.HeaderLayout :=
  { hdrLen := 2
    decodeHeader := fun l => { wrOperation (leWord l) with opndLen := 1, ntrans := 2 } }

theorem witness_LawfulLayoutKeepsInvariant :
    twoWrites.Lawful ∧
    (Inv twoWrites { executing [1#8, 2#8] [3#8] [4#8] with op := some (twoWrites.decodeHeader [1#8, 2#8]) } ∧
      ∃ t, cycleOf twoWrites { executing [1#8, 2#8] [3#8] [4#8] with op := some (twoWrites.decodeHeader [1#8, 2#8]) } =
        .next t) :=
  ⟨⟨by decide, fun _ _ => rfl⟩, inv_of_check (by decide), _, rfl⟩

theorem witness_MachineNeverStops :
    MachineInv base ∧ State.seq { base with seq := .executing } = .executing ∧ base.op = none :=
  ⟨machineInv_of_check (by decide), by decide, by decide⟩

theorem witness_RunEndsOnceTargetAnswers :
    (MachineInv (answer 0#32 true false { wrOnBus with lastSeen := true }) ∧
      (answer 0#32 true false wrOnBus).busIn.ready = true ∧
      ∃ t, step (answer 0#32 true false { wrOnBus with lastSeen := true }) = .next t ∧ t.running = true) ∧
    (MachineInv pollExhausted ∧ pollExhausted.running = true ∧ pollExhausted.lastSeen = true ∧ pollExhausted.txn = none ∧
      ∃ t, step pollExhausted = .next t) :=
  ⟨⟨machineInv_of_check (by decide), by decide, _, rfl, by decide⟩,
    ⟨machineInv_of_check (by decide), by decide, by decide, by decide, _, rfl⟩⟩

theorem witness_ConsumptionIsNeverBackToBack :
    (awaiting [] wrHdr).consumed = 3 ∧ (wrRun [1#8] wrBytes).consumed = 3 ∧
    ∃ t, step (awaiting [] wrHdr) = .next t ∧ (awaiting [] wrHdr).running = true ∧ t.running = true :=
  ⟨by decide, by decide, _, rfl, by decide, by decide⟩

theorem witness_ResultBytesComeInOrder :
    (∃ t, step readRetired = .next t ∧ readRetired.rcool = false ∧ 0 < readRetired.rvalid ∧ t.running = true ∧
      t.rcool = true) ∧
    (∃ t, step (answer 0xCAFEF00D#32 true false rdOnBus) = .next t ∧ t.running = true ∧ rdOnBus.op ≠ none ∧
      rdOnBus.txn ≠ none ∧ (answer 0xCAFEF00D#32 true false rdOnBus).busIn.ready = true) ∧
    (∃ t, step rdOnBus = .next t ∧ t.running = true ∧ rdOnBus.txn ≠ none ∧ rdOnBus.busIn.ready = false) :=
  ⟨⟨_, rfl, by decide, by decide, by decide, by decide⟩, ⟨_, rfl, by decide, by decide, by decide, by decide⟩,
    _, rfl, by decide, by decide, by decide⟩

/-- The start state is the one the retirement of a read leaves (V10, t = 9 and 10). -/
theorem witness_ReadResultTakesTwoPulses :
    MachineInv readRetired ∧ readRetired.seq = .executing ∧ readRetired.txn = none ∧ readRetired.lastSeen = true ∧
    readRetired.rbuf = bytesLE (0xCAFEF00D#32).toNat 4 ∧ readRetired.rcool = false ∧
    (∃ t1 t2 t3 t4, step readRetired = .next t1 ∧ step t1 = .next t2 ∧ step t2 = .next t3 ∧ step t3 = .next t4) ∧
    stepsTo (answer 0xCAFEF00D#32 true false { rdOnBus with lastSeen := true }) (fun t =>
      t == { readRetired with inputs := [], now := 1 }) = true :=
  ⟨machineInv_of_check (by decide), by decide, by decide, by decide, by decide, by decide,
    ⟨_, _, _, _, rfl, rfl, rfl, rfl⟩, by decide⟩

theorem witness_PayloadStreamIsPreserved :
    (∃ t, step (offer 0x1A000000000F0E#54 (awaiting [] wrHdr)) = .next t ∧ t.running = true) ∧
    (∃ t, step (offer 0x1A000000000F0E#54 (wrRun [1#8] [2#8])) = .next t ∧ (wrRun [1#8] [2#8]).seq = .executing ∧
      (wrRun [1#8] [2#8]).txn = none ∧ t.running = true) :=
  ⟨⟨_, rfl, by decide⟩, _, rfl, by decide, by decide, by decide⟩

theorem witness_NoGroupStarvesAfterDataLast :
    (MachineInv { awaiting [1#8, 2#8, 3#8] [0#8] with lastSeen := true } ∧
      (awaiting [1#8, 2#8, 3#8] [0#8]).hdr.length < 4) ∧
    (MachineInv { wrRun [1#8, 2#8, 3#8] [4#8] with lastSeen := true } ∧
      (wrRun [1#8, 2#8, 3#8] [4#8]).op = some (wrOperation 0x00001000#32) ∧
      opDone (wrOperation 0x00001000#32) { wrRun [1#8, 2#8, 3#8] [4#8] with lastSeen := true } = false ∧
      (wrRun [1#8, 2#8, 3#8] [4#8]).opnd.length < opNeed (wrOperation 0x00001000#32)) :=
  ⟨⟨machineInv_of_check (by decide), by decide⟩, machineInv_of_check (by decide), by decide, by decide, by decide⟩

theorem witness_BusWiresShowTransaction :
    wrOnBus.txn = some writeTxn ∧ base.txn = none ∧ MachineInv rdOnBus ∧ rdOnBus.busReq.write = false :=
  ⟨by decide, by decide, machineInv_of_check (by decide), by decide⟩

theorem witness_TransactionStaysUntilReady :
    (MachineInv (wrRun wrBytes []) ∧ (wrRun wrBytes []).txn = none ∧
      (wrRun wrBytes []).op = some (wrOperation 0x00001000#32) ∧
      opDone (wrOperation 0x00001000#32) (wrRun wrBytes []) = false ∧
      (wrRun wrBytes []).opnd.length = opNeed (wrOperation 0x00001000#32) ∧
      ∃ t, step (wrRun wrBytes []) = .next t ∧ t.running = true ∧ t.txn = some writeTxn) ∧
    (MachineInv rdOnBus ∧ rdOnBus.txn = some readTxn ∧
      ∀ (k : Nat) (u : State), k < 2 → StepsTo k rdOnBus u → u.busIn.ready = false) ∧
    (MachineInv (answer 0#32 true true rdOnBus) ∧ ∃ t, step (answer 0#32 true true rdOnBus) = .next t) ∧
    (MachineInv rdRun ∧ rdRun.txn = none ∧ ∃ t, step rdRun = .next t ∧ t.txn = some readTxn) := by
  refine ⟨⟨machineInv_of_check (by decide), by decide, by decide, by decide, by decide, _, rfl, by decide, by decide⟩,
    ⟨machineInv_of_check (by decide), by decide, fun k u hk hu => ?_⟩, ⟨machineInv_of_check (by decide), _, rfl⟩,
    machineInv_of_check (by decide), by decide, _, rfl, by decide⟩
  match k, hk with
  | 0, _ => cases hu; rfl
  | 1, _ => cases hu; rfl

theorem witness_BusAnswerIgnoredUnlessAwaited :
    base.txn = none ∧ wrOnBus.op = some (wrOperation 0x00001000#32) ∧ (wrOperation 0x00001000#32).kind = .write := by decide

theorem witness_PollFailsAfterExactlyItsBudget :
    (MachineInv pollExhausted ∧ ∃ t, step pollExhausted = .next t ∧ t.seq = .pollFailed) ∧
    (MachineInv (answer 0#32 true false { pollOnBus with attempts := 2 }) ∧
      ∃ t, step (answer 0#32 true false { pollOnBus with attempts := 2 }) = .next t ∧
        t.op = some (pollOperation 0x00001000#32 3) ∧ t.attempts = t.params.pollBudget) :=
  ⟨⟨machineInv_of_check (by decide), _, rfl, by decide⟩, machineInv_of_check (by decide), _, rfl, by decide, by decide⟩

theorem witness_CompletedMeansAllDone :
    (MachineInv { readCompleting with rbuf := [] } ∧
      ∃ t, step { readCompleting with rbuf := [] } = .next t ∧ t.seq = .completed) ∧
    (MachineInv { pollExhausted with pollMet := true, outcome := .ok } ∧
      ∃ t, step { pollExhausted with pollMet := true, outcome := .ok } = .next t ∧ t.seq = .completed) :=
  ⟨⟨machineInv_of_check (by decide), _, rfl, by decide⟩, machineInv_of_check (by decide), _, rfl, by decide⟩

theorem witness_CommandsAreAcceptedExactlyWhenReady :
    rdOnBus.txn ≠ none ∧ readCompleting.seq = .completing ∧ base.seq = .idle ∧ base.txn = none ∧
    State.terminal { base with seq := .errored } = true ∧ rdRun.seq = .executing ∧ rdRun.txn = none := by decide

theorem witness_AcknowledgeIsAcceptance :
    base.frontEnd = .stream ∧ (offer 0#54 base).reqIn.valid = true ∧ base.canAccept = true ∧ base.reqIn.valid = false ∧
    rdOnBus.canAccept = false := by decide

theorem witness_UnacceptedCommandLeavesNoTrace :
    rdOnBus.canAccept = false ∧
    ∃ t, step { rdOnBus with frontEnd := .autonomous, fstate := .held 0x08000000000000#54 } = .next t :=
  ⟨by decide, _, rfl⟩

theorem witness_IgnoredFieldsChangeNothing :
    ∀ i < 8 * (2#3 : BitVec 3).toNat, (0xFFFFFFFF1000#48).getLsbD i = (0x1000#48).getLsbD i := by decide

theorem witness_FetchStartsWhenCommandCanBeAccepted :
    autonomous.frontEnd = .autonomous ∧ autonomous.fstate = .noFetch ∧ (∃ t, step autonomous = .next t) ∧
    rdOnBus.txn ≠ none ∧ (readCompleting.running = true ∧ readCompleting.lastSeen = true) :=
  ⟨by decide, by decide, ⟨_, rfl⟩, by decide, by decide, by decide⟩

theorem witness_FetchCompletesAndHolds :
    (∃ t, step { autonomous with fstate := .pending 2 } = .next t) ∧
    (∃ t, step { autonomous with fstate := .pending 1 } = .next t ∧ t.fstate = .held 0x08000000000000#54) ∧
    (∃ t, step { autonomous with fstate := .held 0x08000000000000#54 } = .next t) :=
  ⟨⟨_, rfl⟩, ⟨_, rfl, by decide⟩, _, rfl⟩

theorem witness_InstructionPointerMovesOnlyAtCapture :
    (∃ t, step { autonomous with fstate := .pending 1, ip := 0xFFFF#16 } = .next t ∧ t.ip = 0#16) ∧
    (∃ t, step { autonomous with fstate := .pending 2 } = .next t) ∧ (∃ t, step base = .next t) ∧ base.frontEnd = .stream :=
  ⟨⟨_, rfl, by decide⟩, ⟨_, rfl⟩, ⟨_, rfl⟩, by decide⟩

theorem witness_FetchTakesItsLatency :
    autonomous.frontEnd = .autonomous ∧ autonomous.fstate = .noFetch ∧ autonomous.canAccept = true ∧
    (∃ t, StepsTo (autonomous.params.fetchLatency + 1) autonomous t ∧ t.ip = 1#16) ∧
    (∃ t, StepsTo 2 { autonomous with params := { fetchLatency := 1, pollBudget := 3 } } t) :=
  ⟨by decide, by decide, by decide, ⟨_, rfl, by decide⟩, _, rfl⟩

theorem witness_StepLeavesStoreAndParameters : ∃ t, step autonomous = .next t := ⟨_, rfl⟩

theorem witness_ResidualStateIsWrittenAndNotRead :
    (∃ t, step { base with resid := some .busFault } = .next t ∧ t.seq ≠ .errored ∧ t.seq ≠ .pollFailed ∧
      acceptedCommand base = none) ∧
    (∃ t, step (offer 0x10000000000000#54 { base with resid := some .busFault }) = .next t ∧ t.resid = none) :=
  ⟨⟨_, rfl, by decide, by decide, by decide⟩, _, rfl, by decide⟩

theorem witness_StatusFollowsSeq :
    base.seq = .idle ∧ rdRun.seq = .executing ∧ readCompleting.seq = .completing ∧ (awaiting [] []).seq = .awaitingAddress := by
  decide

theorem witness_CooldownsRecordThePulses :
    (∃ t, step (awaiting [] wrHdr) = .next t ∧ t.cool = true) ∧ (∃ t, step readRetired = .next t ∧ t.rcool = true) :=
  ⟨⟨_, rfl, by decide⟩, _, rfl, by decide⟩

end Sys2Proof.Tests
end

section
/-! SUPPORT. Laws of the command unpacker (40_command_unpacker.md): the command an opcode field selects, what each command
writes, what the Sequencer's own action can do to `running` and `resid`, and the step as a composition of the three. -/

namespace Sys2Proof.Machine

/-! ### The opcode field (R90, R91) -/

theorem decodeCmd_idle {w : CmdWord} (h : w.extractLsb' 51 3 = 0#3) :
    decodeCmd w = .idle (w.extractLsb' 48 3) (w.extractLsb' 0 48) := by
  simp [decodeCmd, h]

theorem decodeCmd_startclr {w : CmdWord} (h : w.extractLsb' 51 3 = 2#3) :
    decodeCmd w = .startclr (w.extractLsb' 48 3) (w.extractLsb' 0 48) := by
  simp [decodeCmd, h]

theorem decodeCmd_data {w : CmdWord} (h : w.extractLsb' 51 3 = 3#3) :
    decodeCmd w = .data (w.extractLsb' 48 3) (w.extractLsb' 0 48) := by
  simp [decodeCmd, h]

theorem decodeCmd_datalast {w : CmdWord} (h : w.extractLsb' 51 3 = 4#3) :
    decodeCmd w = .datalast (w.extractLsb' 48 3) (w.extractLsb' 0 48) := by
  simp [decodeCmd, h]

/-- An opcode field of 5 or more selects an illegal command (R100). -/
theorem decodeCmd_illegal {w : CmdWord} (h : 5 ≤ (w.extractLsb' 51 3).toNat) :
    ∃ c d, decodeCmd w = .illegal5 c d ∨ decodeCmd w = .illegal6 c d ∨ decodeCmd w = .illegal7 c d := by
  have hop : (w.extractLsb' 51 3).toNat = 5 ∨ (w.extractLsb' 51 3).toNat = 6 ∨ (w.extractLsb' 51 3).toNat = 7 := by
    have := (w.extractLsb' 51 3).isLt
    omega
  refine ⟨w.extractLsb' 48 3, w.extractLsb' 0 48, ?_⟩
  rcases hop with hop | hop | hop <;> simp [decodeCmd, hop]

/-! ### Payload bytes (R93) -/

theorem bytesLE_getElem? (v : Nat) {n i : Nat} (h : i < n) :
    (bytesLE v n)[i]? = some (BitVec.ofNat 8 (v / 256 ^ i)) := by
  induction n generalizing v i with
  | zero => omega
  | succ n ih =>
    cases i with
    | zero => simp [bytesLE]
    | succ i =>
      rw [bytesLE, List.getElem?_cons_succ, ih (v / 256) (by omega), Nat.div_div_eq_div_mul, ← Nat.pow_succ']

/-- Byte `i` of a payload command is bits `8i+7:8i` of its data field. -/
theorem payloadBytes_getElem? {c : BitVec 3} (d : BitVec 48) (hc : c ≠ 7#3) {i : Nat} (hi : i < c.toNat) :
    (payloadBytes c d)[i]? = some (d.extractLsb' (8 * i) 8) := by
  have hsix := count_le_six hc
  have hpow : 256 ^ i = 2 ^ (8 * i) := by rw [Nat.pow_mul]
  rw [payloadBytes, List.getElem?_take_of_lt hi, bytesLE_getElem? _ (by omega), hpow,
    ← Nat.shiftRight_eq_div_pow]
  rfl

/-! ### What a command writes (R122 to R128, R135, R136) -/

variable (c : BitVec 3) (d : BitVec 48) (s : State)

theorem exec_idle : exec (.idle c d) s = .next s := rfl

theorem exec_start_outside_run {s : State} (h : s.running = false) : exec (.start c d) s = .next s.openRun := by
  simp [exec, execStart, startCommand, h]

theorem exec_startclr_outside_run {s : State} (h : s.running = false) :
    exec (.startclr c d) s = .next { s.openRun with resid := none } := by
  simp [exec, execStartclr, startCommand, h]

theorem exec_startclr_in_run {s : State} (h : s.running = true) :
    exec (.startclr c d) s = .next (s.fail .incompleteOperation) := by
  simp [exec, execStartclr, startCommand, h]

theorem exec_data_in_run {c : BitVec 3} {s : State} (hc : c ≠ 7#3) (h : s.running = true) :
    exec (.data c d) s = .next (s.append c d) := by
  simp [exec, execData, payloadCommand, hc, h]

theorem exec_data_outside_run {c : BitVec 3} {s : State} (hc : c ≠ 7#3) (h : s.running = false) :
    exec (.data c d) s = .next (s.fail .incompleteOperation) := by
  simp [exec, execData, payloadCommand, hc, h]

theorem exec_data_seven : exec (.data 7#3 d) s = .next (s.fail .invalidByteCount) := rfl

theorem exec_datalast_seven : exec (.datalast 7#3 d) s = .next (s.fail .invalidByteCount) := rfl

theorem exec_illegal5 : exec (.illegal5 c d) s = .next (s.fail .malformedOpcode) := rfl

theorem exec_illegal6 : exec (.illegal6 c d) s = .next (s.fail .malformedOpcode) := rfl

theorem exec_illegal7 : exec (.illegal7 c d) s = .next (s.fail .malformedOpcode) := rfl

/-- Of all commands only a `STARTCLR` that opens a run clears `resid`. -/
theorem exec_clears_resid {w : CmdWord} {s t : State} (h : exec (decodeCmd w) s = .next t) (hs : s.resid ≠ none)
    (ht : t.resid = none) : s.running = false ∧ ∃ c d, decodeCmd w = .startclr c d := by
  obtain ⟨c, d, -, he⟩ | ⟨c, d, -, -, he⟩ | ⟨c, d, hw, hr, he⟩ | ⟨c, d, -, -, -, he⟩ | ⟨c, d, -, -, -, he⟩ |
    ⟨cause, -, he⟩ := command_cases w s
  case inr.inr.inl => exact ⟨hr, c, d, hw⟩
  all_goals
    rw [he] at h
    cases h
    simp_all

/-! ### Acceptance (R120, R152) -/

theorem accepted_none_after_dataLast {s : State} (hr : s.running = true) (hl : s.lastSeen = true) :
    s.accepted = none := by
  refine accepted_none_of_not_canAccept (Bool.eq_false_iff.2 fun h => ?_)
  obtain ⟨-, -, hopen⟩ := (canAccept_iff s).1 h
  simp [hopen hr] at hl

theorem acceptedCommand_of_accepted {s : State} {w : CmdWord} (h : s.accepted = some w) :
    acceptedCommand s = some (decodeCmd w) := by
  simp [acceptedCommand, h]

theorem running_of_terminal {s : State} (h : s.terminal = true) : s.running = false := by
  unfold State.terminal at h
  unfold State.running
  cases hq : s.seq <;> simp_all

/-! ### The Sequencer's own action (R153 to R158) -/

/-- The header's instruction is an operation: it does what the Sequencer does for some operation record. -/
theorem runHeader_operate (s : State) : ∃ o, runHeader s = .next (s.operate o) := by
  unfold runHeader decodeHdr
  simp only
  split <;> exact ⟨_, rfl⟩

/-- The decode cycle records an operation (R154). -/
theorem runHeader_awaiting {s : State} (h : s.seq = .awaitingAddress) :
    ∃ o, runHeader s = .next (s.enterExecuting o) := by
  obtain ⟨o, ho⟩ := runHeader_operate s
  exact ⟨o, by simp [ho, State.operate, h]⟩

theorem sequencerAction_terminal {s : State} (h : s.terminal = true) :
    sequencerAction s = .next s.returnToIdle := by
  unfold State.terminal at h
  unfold sequencerAction sequencer
  cases hq : s.seq <;> simp_all

/-- The Sequencer acts in every state but `Executing` without an operation (log 10). -/
theorem sequencerAction_total {s : State} (h : s.seq ≠ .executing ∨ s.op ≠ none) :
    ∃ u, sequencerAction s = .next u := by
  unfold sequencerAction sequencer
  cases hq : s.seq with
  | awaitingAddress =>
    obtain ⟨o, ho⟩ := runHeader_awaiting hq
    by_cases hh : s.hdr.length = Config.hdrLen <;> simp [hh, ho]
  | executing =>
    obtain ⟨o, ho⟩ := Option.ne_none_iff_exists'.1 (h.resolve_left (· hq))
    simp [ho]
  | idle | completing | completed | pollFailed | errored => simp

@[simp] theorem State.retireOk_resid (o : Operation) (v : Word) (s : State) : (s.retireOk o v).resid = s.resid := by
  rcases retireOk_cases o v s with ⟨-, h⟩ | ⟨-, h⟩ | ⟨-, h⟩ <;> simp [h]

@[simp] theorem State.offBus_resid (o : Operation) (s : State) : (s.offBus o).resid = s.resid := by
  rcases offBus_cases o s with ⟨-, -, h⟩ | ⟨-, -, h⟩ | ⟨-, -, h⟩ | ⟨-, -, h⟩ <;> simp [h]

theorem State.offBus_running (o : Operation) {s : State} (hs : s.seq = .executing) :
    (s.offBus o).running = s.running := by
  rcases offBus_cases o s with ⟨-, -, h⟩ | ⟨-, -, h⟩ | ⟨-, -, h⟩ | ⟨-, -, h⟩ <;> simp [h, State.running, hs]

/-- The Sequencer never clears `resid`: a bus fault and an exhausted poll write a cause, and nothing else writes it. -/
theorem sequencerAction_resid {s u : State} (h : sequencerAction s = .next u) (hs : s.resid ≠ none) :
    u.resid ≠ none := by
  rcases sequencer_cases h with ⟨-, rfl⟩ | ⟨hq, -, hdec⟩ | ⟨-, -, rfl⟩ | ⟨-, o, -, -, -, rfl⟩ | ⟨-, o, -, -, rfl⟩ |
    ⟨-, rfl⟩ | ⟨-, rfl⟩
  case inl => exact hs
  case inr.inl =>
    obtain ⟨o, ho⟩ := runHeader_awaiting hq
    rw [ho] at hdec
    cases hdec
    simpa using hs
  case inr.inr.inr.inl =>
    rcases onBus_cases o s.busIn s with ⟨-, hb⟩ | ⟨-, -, hb⟩ | ⟨-, -, hb⟩ <;> simp [hb, hs]
  case inr.inr.inr.inr.inr.inl =>
    rcases complete_cases s with ⟨-, hc⟩ | ⟨-, -, hc⟩ | ⟨-, -, hc⟩ <;> simp [hc, hs]
  all_goals simpa using hs

/-- In a cycle that can accept a command the Sequencer neither opens nor ends a run (log 8): a command sees `running` as it
was at the start of the cycle. -/
theorem sequencerAction_running {s u : State} (hacc : s.canAccept = true) (h : sequencerAction s = .next u) :
    u.running = s.running := by
  obtain ⟨htxn, hcompl, -⟩ := (canAccept_iff s).1 hacc
  rcases sequencer_cases h with ⟨-, rfl⟩ | ⟨hq, -, hdec⟩ | ⟨-, -, rfl⟩ | ⟨-, o, tx, -, htx, -⟩ | ⟨hq, o, -, -, rfl⟩ |
    ⟨hq, -⟩ | ⟨hterm, rfl⟩
  · rfl
  · obtain ⟨o, ho⟩ := runHeader_awaiting hq
    rw [ho] at hdec
    cases hdec
    simp [State.running, hq]
  · simp
  · simp [htxn] at htx
  · exact State.offBus_running o hq
  · exact absurd hq hcompl
  · simp [running_of_terminal hterm]

/-! ### The step that accepts a command (R161) -/

theorem andThen_assoc (r : Result) (f g : State → Result) :
    andThen (andThen r f) g = andThen r fun u => andThen (f u) g := by
  cases r <;> rfl

/-- A run that is not open, or whose `data-last` has not come, is not checked for sufficiency (R132). -/
theorem checkSufficient_self (n : Nat) {s : State} (h : s.running = false ∨ s.lastSeen = false) :
    s.checkSufficient n = s := by
  rcases checkSufficient_cases n s with ⟨hi, -⟩ | ⟨-, hs⟩
  · obtain ⟨hr, hl⟩ := insufficient_running hi
    simp [hr, hl] at h
  · exact hs

theorem checkSufficient_resid_none {n : Nat} {s : State} (h : (s.checkSufficient n).resid = none) :
    s.resid = none := by
  rcases checkSufficient_cases n s with ⟨-, hs⟩ | ⟨-, hs⟩ <;> simp_all

/-- A step is the Sequencer's own action, then the accepted command, then the end of the cycle. -/
theorem step_of_acceptedCommand {s : State} {i : Instr} (h : acceptedCommand s = some i) :
    step s = andThen (andThen (sequencerAction s) (exec i)) (finishCycle s) := by
  have hcmd : s.accepted.map decodeCmd = some i := h
  unfold step cycle coreCycle
  rw [hcmd, andThen_assoc _ _ fun t => .next (endCycle Config.hdrLen s t)]
  rfl

/-- The step when the Sequencer leaves `u`, the command makes `v` of it, and `v` is not checked for sufficiency. -/
theorem step_eq_endCycle {s u v : State} {i : Instr} (hcmd : acceptedCommand s = some i)
    (hseq : sequencerAction s = .next u) (hexec : exec i u = .next v) (hv : v.running = false ∨ v.lastSeen = false) :
    step s = .next (endCycle Config.hdrLen s v) := by
  rw [step_of_acceptedCommand hcmd, hseq, andThen_of_next, hexec, andThen_of_next, finishCycle,
    checkSufficient_self _ hv]

theorem State.fail_drain (cause : Cause) (n : Nat) (s : State) : (s.fail cause).drain n = s.fail cause := by
  simp [State.drain, State.fail, State.clearRun]

theorem endCycle_fail_cleared (cause : Cause) (n : Nat) (s u : State) : Cleared (endCycle n s (u.fail cause)) := by
  unfold Cleared endCycle
  rw [State.fail_drain]
  rfl

/-- A step that accepts a command which fails in every state ends in the failed state, whatever the Sequencer does. -/
theorem step_of_failing_command {s : State} {i : Instr} {cause : Cause} (hcmd : acceptedCommand s = some i)
    (hexec : ∀ u, exec i u = .next (u.fail cause)) (hact : s.seq ≠ .executing ∨ s.op ≠ none) :
    ∃ u : State, step s = .next (endCycle Config.hdrLen s (u.fail cause)) := by
  obtain ⟨u, hu⟩ := sequencerAction_total hact
  exact ⟨u, step_eq_endCycle hcmd hu (hexec u) (.inl rfl)⟩

/-- A step clears `resid` only by a `STARTCLR` accepted outside a run. -/
theorem step_clears_resid {s t : State} (h : step s = .next t) (hs : s.resid ≠ none) (ht : t.resid = none) :
    s.running = false ∧ ∃ c d, acceptedCommand s = some (.startclr c d) := by
  obtain ⟨u, v, hseq, hcmd, rfl⟩ := cycle_cases h
  have hu : u.resid ≠ none := sequencerAction_resid hseq hs
  have hv : v.resid = none := checkSufficient_resid_none (by simpa using ht)
  rcases hcmd with ⟨-, rfl⟩ | ⟨w, hw, hexec⟩
  · exact absurd hv hu
  · obtain ⟨hrun, c, d, hdec⟩ := exec_clears_resid hexec hu hv
    obtain ⟨hacc, -⟩ := (accepted_iff s w).1 hw
    exact ⟨(sequencerAction_running hacc hseq).symm.trans hrun, c, d, hdec ▸ acceptedCommand_of_accepted hw⟩

end Sys2Proof.Machine
end

section
/-! PROOFS. The obligations on the Script Opcodes of 40_command_unpacker.md. -/

namespace Sys2Proof.CommandUnpacker

open Sys2Proof.Machine

/-- Settles O12: `IDLE` is the unit of the command's place in the step. -/
theorem idleDoesNothing : Obligations.IdleDoesNothing := by
  refine ⟨fun w => decodeCmd_idle, exec_idle, fun s c d hcmd => ?_, fun s c d hcmd hterm => ?_,
    fun s => accepted_none_after_dataLast⟩
  · rw [step_of_acceptedCommand hcmd, andThen_assoc]
    rfl
  · exact ⟨_, step_eq_endCycle hcmd (sequencerAction_terminal hterm) (exec_idle c d _) (.inl rfl), rfl⟩

/-- Settles O14: the opening of a run by `STARTCLR`, and `step_clears_resid` for "no other way". -/
theorem startclrOpensRunAndClearsResid : Obligations.StartclrOpensRunAndClearsResid := by
  refine ⟨fun w => decodeCmd_startclr, fun c d s hr => exec_startclr_outside_run c d hr, fun c d s t hr hstart => ?_,
    fun c d s hr => exec_startclr_in_run c d hr, fun s c d hterm hcmd => ?_, fun s t => step_clears_resid⟩
  · rw [exec_start_outside_run c d hr] at hstart
    cases hstart
    exact exec_startclr_outside_run c d hr
  · have hexec := exec_startclr_outside_run c d s.returnToIdle_running
    exact ⟨_, step_eq_endCycle hcmd (sequencerAction_terminal hterm) hexec (.inr rfl), rfl, rfl, rfl, rfl⟩

/-- Settles O15: the bytes appended are `payloadBytes`, read off the data field by `payloadBytes_getElem?`. -/
theorem dataAppendsPayload : Obligations.DataAppendsPayload := by
  refine ⟨fun w => decodeCmd_data, fun c d s hc hr => ?_, fun c d s hc hr => exec_data_outside_run d hc hr,
    exec_data_seven, fun s => accepted_none_after_dataLast⟩
  exact ⟨payloadBytes c d, payloadBytes_length d hc, fun i => payloadBytes_getElem? d hc, exec_data_in_run d hc hr⟩

/-- Settles O17: all three illegal opcodes fail in every state, so the step that accepts one ends failed. -/
theorem illegalOpcodesRaise : Obligations.IllegalOpcodesRaise := by
  refine ⟨fun c d s => ⟨exec_illegal5 c d s, exec_illegal6 c d s, exec_illegal7 c d s⟩, fun s w hw hop hact => ?_⟩
  have hexec : ∀ u, exec (decodeCmd w) u = .next (u.fail .malformedOpcode) := by
    obtain ⟨c, d, h | h | h⟩ := decodeCmd_illegal hop <;> rw [h]
    exacts [exec_illegal5 c d, exec_illegal6 c d, exec_illegal7 c d]
  obtain ⟨u, hu⟩ := step_of_failing_command (acceptedCommand_of_accepted hw) hexec hact
  exact ⟨_, hu, rfl, rfl, rfl, endCycle_fail_cleared _ _ s u⟩

/-- Settles O18: a payload command with count 7 fails in every state, so the step that accepts one ends failed. -/
theorem acceptedCountSevenEndsRun : Obligations.AcceptedCountSevenEndsRun := by
  intro s w hw hop hcount hact
  have hexec : ∀ u, exec (decodeCmd w) u = .next (u.fail .invalidByteCount) := by
    rcases hop with hop | hop
    · rw [decodeCmd_data hop, hcount]
      exact exec_data_seven _
    · rw [decodeCmd_datalast hop, hcount]
      exact exec_datalast_seven _
  obtain ⟨u, hu⟩ := step_of_failing_command (acceptedCommand_of_accepted hw) hexec hact
  exact ⟨_, hu, rfl, rfl, rfl, rfl, rfl, endCycle_fail_cleared _ _ s u⟩

end Sys2Proof.CommandUnpacker
end

section
/-! SUPPORT. Laws of the Transaction Sequencer (41_transaction_sequencer.md): the step in which no command is accepted,
what a command does to a state outside a run, and what the consumption pulse of a cycle takes from the queue. -/

namespace Sys2Proof.Machine

/-! ### The step that accepts no command (R161) -/

theorem acceptedCommand_eq_none {s : State} : acceptedCommand s = none ↔ s.accepted = none :=
  Option.map_eq_none_iff

/-- Without an accepted command a step is the Sequencer's own action and the end of the cycle. -/
theorem step_of_no_command {s u : State} (hcmd : s.accepted = none) (hseq : sequencerAction s = .next u) :
    step s = .next (endCycle Config.hdrLen s (u.checkSufficient Config.hdrLen)) := by
  have hseq : sequencer Config.hdrLen runHeader s = .next u := hseq
  simp [step, cycle, coreCycle, hseq, hcmd, commandAction]

/-! ### Commands outside a run (R123 to R128, R135, R136) -/

theorem exec_datalast_outside_run {c : BitVec 3} (d : BitVec 48) {s : State} (hc : c ≠ 7#3) (h : s.running = false) :
    exec (.datalast c d) s = .next (s.fail .incompleteOperation) := by
  simp [exec, execDatalast, payloadCommand, hc, h]

/-- What the command `i` makes of a state `u` outside a run: the classes of R153 and R158. -/
structure ActsOutsideRun (i : Instr) (u v : State) : Prop where
  opens : isStart i = true → v.seq = .awaitingAddress
  fails : i.legal = false ∨ isPayload i = true → v.seq = .errored
  keeps : ¬ isStart i = true → ¬ (i.legal = false ∨ isPayload i = true) → v = u

theorem ActsOutsideRun.of_start {i : Instr} {u v : State} (hi : isStart i = true) (hl : i.legal = true)
    (hp : isPayload i = false) (hv : v.seq = .awaitingAddress) : ActsOutsideRun i u v :=
  ⟨fun _ => hv, by simp [hl, hp], fun h => absurd hi h⟩

theorem ActsOutsideRun.of_fail {i : Instr} (u : State) (cause : Cause) (hi : isStart i = false)
    (hf : i.legal = false ∨ isPayload i = true) : ActsOutsideRun i u (u.fail cause) :=
  ⟨by simp [hi], fun _ => rfl, fun _ h => absurd hf h⟩

/-- Outside a run a command opens one, fails, or does nothing, by its class; what it leaves is not checked for
sufficiency. -/
theorem exec_outside_run (w : CmdWord) {u : State} (hr : u.running = false) :
    ∃ v, exec (decodeCmd w) u = .next v ∧ (v.running = false ∨ v.lastSeen = false) ∧
      ActsOutsideRun (decodeCmd w) u v := by
  rcases decodeCmd_cases w with h | h | h | h | h | h | h | h <;> rw [h]
  case inl => exact ⟨u, exec_idle _ _ u, .inl hr, by simp [isStart], by simp [Instr.legal, isPayload], fun _ _ => rfl⟩
  case inr.inl => exact ⟨_, exec_start_outside_run _ _ hr, .inr rfl, .of_start rfl rfl rfl rfl⟩
  case inr.inr.inl => exact ⟨_, exec_startclr_outside_run _ _ hr, .inr rfl, .of_start rfl rfl rfl rfl⟩
  case inr.inr.inr.inl =>
    by_cases hc : w.extractLsb' 48 3 = 7#3
    · rw [hc]
      exact ⟨_, exec_data_seven _ u, .inl rfl, .of_fail u _ rfl (.inr rfl)⟩
    · exact ⟨_, exec_data_outside_run _ hc hr, .inl rfl, .of_fail u _ rfl (.inr rfl)⟩
  case inr.inr.inr.inr.inl =>
    by_cases hc : w.extractLsb' 48 3 = 7#3
    · rw [hc]
      exact ⟨_, exec_datalast_seven _ u, .inl rfl, .of_fail u _ rfl (.inr rfl)⟩
    · exact ⟨_, exec_datalast_outside_run _ hc hr, .inl rfl, .of_fail u _ rfl (.inr rfl)⟩
  all_goals exact ⟨_, rfl, .inl rfl, .of_fail u _ rfl (.inl rfl)⟩

/-- The step of a cycle whose Sequencer action leaves no run: it is decided by the accepted command alone. -/
theorem step_outside_run {s u : State} (hseq : sequencerAction s = .next u) (hr : u.running = false) :
    ∃ v, step s = .next (endCycle Config.hdrLen s v) ∧ (s.accepted = none → v = u) ∧
      ∀ i, acceptedCommand s = some i → ActsOutsideRun i u v := by
  cases ha : s.accepted with
  | none =>
    refine ⟨u, ?_, fun _ => rfl, by simp [acceptedCommand, ha]⟩
    rw [step_of_no_command ha hseq, checkSufficient_self _ (.inl hr)]
  | some w =>
    have hcmd := acceptedCommand_of_accepted ha
    obtain ⟨v, hexec, hv, hacts⟩ := exec_outside_run w hr
    refine ⟨v, step_eq_endCycle hcmd hseq hexec hv, by simp, fun i hi => ?_⟩
    cases hcmd.symm.trans hi
    exact hacts

/-! ### What the invariant says of the bus (R50 (a)) -/

theorem txn_none_of_machineInv {s : State} (hinv : MachineInv s) (hq : s.seq ≠ .executing) : s.txn = none :=
  not_not.1 fun htx => hq (hinv.txnExecuting htx)

theorem busReq_select_of_txn_none {s : State} (h : s.txn = none) : s.busReq.select = false := by
  simp [State.busReq, h]

/-! ### `Completing` (R157) -/

theorem canAccept_completing {s : State} (hq : s.seq = .completing) : s.canAccept = false :=
  Bool.eq_false_iff.2 fun h => ((canAccept_iff s).1 h).2.1 hq

/-- A step from `Completing` is the Sequencer's action alone, with the sufficiency check. -/
theorem step_completing {s : State} (hq : s.seq = .completing) :
    step s = .next (endCycle Config.hdrLen s (s.complete.checkSufficient Config.hdrLen)) :=
  step_of_no_command (accepted_none_of_not_canAccept (canAccept_completing hq))
    (by simp [sequencerAction, sequencer, hq])

theorem State.drain_of_rbuf_nil (n : Nat) {s : State} (h : s.rbuf = []) : s.drain n = s := by
  cases s
  simp_all [State.drain]

/-- The end of a cycle writes nothing of a run that the cycle left cleared (R46, R160). -/
theorem endCycle_cleared {u : State} (n : Nat) (s : State) (h : Cleared u) : Cleared (endCycle n s u) := by
  unfold Cleared endCycle
  rw [State.drain_of_rbuf_nil _ (congrArg State.rbuf h.symm)]
  exact congrArg (fun v => ((v.setCooldowns (consumedOf n s) s.rvalid).setFetch s.nextIp s.nextFetch).advanceTime) h

/-! ### The consumption pulse of a cycle (R130, R154, R156, R159) -/

theorem consumed_awaiting {s : State} (hq : s.seq = .awaitingAddress) :
    s.consumed = if s.hdr.length = Config.hdrLen then 0 else pulseSize s s.hdr.length Config.hdrLen := by
  simp [State.consumed, consumedOf, hq]

theorem consumed_onBus {s : State} {tx : Txn} (hq : s.seq = .executing) (htx : s.txn = some tx) : s.consumed = 0 := by
  simp [State.consumed, consumedOf, hq, htx]

theorem consumed_offBus {s : State} {o : Operation} (hq : s.seq = .executing) (htx : s.txn = none)
    (ho : s.op = some o) :
    s.consumed =
      if opDone o s then 0
      else if s.opnd.length < opNeed o then pulseSize s s.opnd.length (opNeed o) else 0 := by
  simp [State.consumed, consumedOf, hq, htx, ho]

theorem consumed_no_operation {s : State} (hq : s.seq = .executing) (ho : s.op = none) : s.consumed = 0 := by
  cases htx : s.txn <;> simp [State.consumed, consumedOf, hq, htx, ho]

theorem consumed_of_not_consuming {s : State} (ha : s.seq ≠ .awaitingAddress) (he : s.seq ≠ .executing) :
    s.consumed = 0 := by
  cases hq : s.seq <;> simp_all [State.consumed, consumedOf]

/-- What a cycle consumes is nothing, or one pulse into the header or into an operand group. -/
theorem consumed_cases (s : State) :
    s.consumed = 0 ∨
    (s.seq = .awaitingAddress ∨ s.seq = .executing ∧ s.txn = none) ∧ ∃ a b, s.consumed = pulseSize s a b := by
  by_cases ha : s.seq = .awaitingAddress
  · rw [consumed_awaiting ha]
    split
    · exact .inl rfl
    · exact .inr ⟨.inl ha, _, _, rfl⟩
  by_cases he : s.seq = .executing
  · cases htx : s.txn with
    | some tx => exact .inl (consumed_onBus he htx)
    | none =>
      cases ho : s.op with
      | none => exact .inl (consumed_no_operation he ho)
      | some o =>
        rw [consumed_offBus he htx ho]
        split_ifs
        · exact .inl rfl
        · exact .inr ⟨.inr ⟨he, rfl⟩, _, _, rfl⟩
        · exact .inl rfl
  · exact .inl (consumed_of_not_consuming ha he)

theorem consumed_le (s : State) : s.consumed ≤ 3 ∧ s.consumed ≤ s.q.length := by
  rcases consumed_cases s with h | ⟨-, a, b, h⟩ <;> rw [h]
  · simp
  · exact ⟨(pulseSize_le s a b).1, (pulseSize_le s a b).2.1⟩

theorem consumed_cool {s : State} (hc : s.cool = true) : s.consumed = 0 := by
  rcases consumed_cases s with h | ⟨-, a, b, h⟩
  · exact h
  · rw [h, pulseSize_cool hc]

@[simp] theorem State.retireOk_q (o : Operation) (v : Word) (s : State) : (s.retireOk o v).q = s.q := by
  rcases retireOk_cases o v s with ⟨-, h⟩ | ⟨-, h⟩ | ⟨-, h⟩ <;> simp [h]

/-- With the bus idle the Sequencer takes the consumed bytes from the queue (R156). -/
theorem State.offBus_q {s : State} {o : Operation} (hq : s.seq = .executing) (htx : s.txn = none)
    (ho : s.op = some o) : (s.offBus o).q = s.q.drop s.consumed := by
  rw [consumed_offBus hq htx ho]
  rcases offBus_cases o s with ⟨hd, -, h⟩ | ⟨hd, -, h⟩ | ⟨hd, hn, h⟩ | ⟨hd, hn, h⟩
  · simp [h, hd]
  · simp [h, hd]
  · simp [h, hd, hn]
  · simp [h, hd, Nat.not_lt.2 hn]

/-- While the run goes on, the Sequencer takes from the queue the consumed bytes and nothing else. -/
theorem sequencerAction_q {s u : State} (h : sequencerAction s = .next u) (hu : u.running = true) :
    u.q = s.q.drop s.consumed := by
  rcases sequencer_cases h with ⟨hq, rfl⟩ | ⟨hq, hh, hdec⟩ | ⟨hq, hh, rfl⟩ | ⟨hq, o, tx, -, htx, rfl⟩ |
    ⟨hq, o, ho, htx, rfl⟩ | ⟨hq, rfl⟩ | ⟨-, rfl⟩
  · simp [State.running, hq] at hu
  · obtain ⟨o, ho⟩ := runHeader_awaiting hq
    cases ho.symm.trans hdec
    simp [consumed_awaiting hq, hh]
  · simp [consumed_awaiting hq, hh]
  · rw [consumed_onBus hq htx]
    rcases onBus_cases o s.busIn s with ⟨-, hb⟩ | ⟨-, -, hb⟩ | ⟨-, -, hb⟩
    · simp [hb]
    · simp [hb] at hu
    · simp [hb]
  · exact State.offBus_q hq htx ho
  · rw [consumed_of_not_consuming (by simp [hq]) (by simp [hq])]
    rcases complete_cases s with ⟨-, hc⟩ | ⟨-, -, hc⟩ | ⟨-, -, hc⟩
    · simp [hc]
    · simp [hc] at hu
    · simp [hc] at hu
  · simp at hu

/-- A command that leaves a run going on which was open before it only adds to the tail of the queue (R129). -/
theorem exec_q {w : CmdWord} {u v : State} (h : exec (decodeCmd w) u = .next v) (hu : u.running = true)
    (hv : v.running = true) : ∃ l, v.q = u.q ++ l := by
  rcases command_cases w u with ⟨c, d, -, he⟩ | ⟨c, d, -, hr, -⟩ | ⟨c, d, -, hr, -⟩ | ⟨c, d, -, -, -, he⟩ |
    ⟨c, d, -, -, -, he⟩ | ⟨cause, -, he⟩
  case inl => cases he.symm.trans h; exact ⟨[], by simp⟩
  case inr.inl | inr.inr.inl => simp [hu] at hr
  case inr.inr.inr.inl | inr.inr.inr.inr.inl => cases he.symm.trans h; exact ⟨payloadBytes c d, rfl⟩
  case inr.inr.inr.inr.inr => cases he.symm.trans h; simp at hv

/-- A run that goes on after the sufficiency check has passed it (R132). -/
theorem checkSufficient_of_running {n : Nat} {s : State} (h : (s.checkSufficient n).running = true) :
    s.checkSufficient n = s := by
  rcases checkSufficient_cases n s with ⟨-, hs⟩ | ⟨-, hs⟩
  · simp [hs] at h
  · exact hs

end Sys2Proof.Machine
end

section
/-! PROOFS. The obligations on the states of the Transaction Sequencer and its consumed-byte output of
41_transaction_sequencer.md. -/

namespace Sys2Proof.TransactionSequencer

open Sys2Proof.Machine

/-- Settles O29: the step is `State.complete` alone, one case per branch of R157; the invariant's sufficiency keeps a
waiting run open. -/
theorem completingEndsRun : Obligations.CompletingEndsRun := by
  intro s hinv hq
  refine ⟨canAccept_completing hq, txn_none_of_machineInv hinv (by simp [hq]), _, step_completing hq, ?_⟩
  rcases complete_cases s with ⟨hb, hc⟩ | ⟨hb, ho, hc⟩ | ⟨hb, ho, hc⟩ <;> rw [hc]
  · have hpass : s.checkSufficient Config.hdrLen = s := if_neg (Bool.eq_false_iff.1 hinv.sufficient)
    rw [hpass]
    simp [hb, hq]
  · rw [checkSufficient_self _ (.inl rfl)]
    exact ⟨absurd hb, fun _ _ => ⟨rfl, rfl, endCycle_cleared _ _ rfl⟩, by simp [ho]⟩
  · rw [checkSufficient_self _ (.inl rfl)]
    exact ⟨absurd hb, by simp [ho], fun _ _ => ⟨rfl, rfl, endCycle_cleared _ _ rfl⟩⟩

/-- Settles O30: the Sequencer leaves an `Idle` state alone, so the accepted command decides the step. -/
theorem idleLeavesOnlyByCommand : Obligations.IdleLeavesOnlyByCommand := by
  intro s hq
  have hact : sequencerAction s = .next s := by simp [sequencerAction, sequencer, hq]
  refine ⟨hact, by simp [State.status, hq], consumed_of_not_consuming (by simp [hq]) (by simp [hq]),
    fun hinv => busReq_select_of_txn_none (txn_none_of_machineInv hinv (by simp [hq])), ?_⟩
  obtain ⟨v, hstep, hnone, hsome⟩ := step_outside_run hact (by simp [State.running, hq])
  refine ⟨_, hstep, ?_⟩
  cases hcmd : acceptedCommand s with
  | none => simp [hnone (acceptedCommand_eq_none.1 hcmd), hq]
  | some i =>
    obtain ⟨hopens, hfails, hkeeps⟩ := hsome i hcmd
    simp only [endCycle_seq]
    split_ifs with hstart hbad
    · exact hopens hstart
    · exact hfails hbad
    · rw [hkeeps hstart hbad, hq]

/-- Settles O31: the Sequencer returns to `Idle`, and the accepted command acts on that. -/
theorem terminalStateLastsOneCycle : Obligations.TerminalStateLastsOneCycle := by
  intro s hterm
  refine ⟨fun hinv => hinv.clearedOutsideRun (running_of_terminal hterm), ?_, ?_⟩
  · cases hq : s.seq <;> simp_all [State.terminal, State.status]
  · obtain ⟨v, hstep, hnone, hsome⟩ := step_outside_run (sequencerAction_terminal hterm) s.returnToIdle_running
    refine ⟨_, hstep, fun ha => by simp [hnone ha], fun i hi => ?_⟩
    obtain ⟨hopens, hfails, hkeeps⟩ := hsome i hi
    exact ⟨hopens, hfails, fun hstart hlegal hpay => by simp [hkeeps (by simp [hstart]) (by simp [hlegal, hpay])]⟩

/-- Settles O38: a pulse sets `cool`, under which the next cycle consumes nothing; and a run that goes on has the
Sequencer's action, then at most an append, between its two queues. -/
theorem consumptionIsNeverBackToBack : Obligations.ConsumptionIsNeverBackToBack := by
  refine ⟨fun s => ⟨(consumed_le s).1, fun hpos => ?_⟩, fun s t h hpos => ?_, fun s t h hs ht => ?_⟩
  · rcases consumed_cases s with h0 | ⟨hwhere, -⟩
    · omega
    · exact hwhere
  · obtain ⟨u, v, -, -, rfl⟩ := cycle_cases h
    exact consumed_cool (decide_eq_true hpos)
  · refine ⟨(consumed_le s).2, ?_⟩
    obtain ⟨u, v, hseq, hcmd, rfl⟩ := cycle_cases h
    rw [endCycle_running] at ht
    have hpass := checkSufficient_of_running ht
    rw [hpass] at ht
    simp only [endCycle_q, hpass]
    rcases hcmd with ⟨-, rfl⟩ | ⟨w, hw, hexec⟩
    · exact ⟨[], by simp [sequencerAction_q hseq ht], fun _ => rfl⟩
    · have hu : u.running = true := (sequencerAction_running ((accepted_iff s w).1 hw).1 hseq).trans hs
      obtain ⟨l, hl⟩ := exec_q hexec hu ht
      exact ⟨l, by rw [hl, sequencerAction_q hseq hu], by simp [hw]⟩

end Sys2Proof.TransactionSequencer
end

section
/-! SUPPORT. Laws of the Bus Transaction Codec (43_bus_transaction_codec.md): the wires as a function of the outstanding
transaction, what a step does to that transaction, and the wait cycle. -/

namespace Sys2Proof.Machine

/-! ### The wires (R211, R214) -/

theorem busReq_of_txn_some {s : State} {tx : Txn} (h : s.txn = some tx) :
    s.busReq = { addr := tx.addr, enable := true, select := true, write := tx.write, wdata := tx.wdata } := by
  simp [State.busReq, h]

theorem busReq_of_txn_none {s : State} (h : s.txn = none) :
    s.busReq = { addr := 0#32, enable := false, select := false, write := false, wdata := 0#32 } := by
  simp [State.busReq, h]

/-! ### The outstanding transaction and the rules of a cycle -/

@[simp] theorem State.retireOk_txn (o : Operation) (v : Word) (s : State) : (s.retireOk o v).txn = none := by
  rcases retireOk_cases o v s with ⟨-, h⟩ | ⟨-, h⟩ | ⟨-, h⟩ <;> simp [h]

/-- The answer of the target ends the transaction, with an error or without (R155). -/
theorem State.onBus_txn_of_ready {b : BusResp} (o : Operation) (s : State) (hr : b.ready = true) :
    (s.onBus o b).txn = none := by
  rcases onBus_cases o b s with ⟨hw, -⟩ | ⟨-, -, hb⟩ | ⟨-, -, hb⟩
  · simp [hw] at hr
  · simp [hb]
  · simp [hb]

theorem State.complete_txn_of_none {s : State} (h : s.txn = none) : s.complete.txn = none := by
  rcases complete_cases s with ⟨-, hc⟩ | ⟨-, -, hc⟩ | ⟨-, -, hc⟩ <;> simp [hc, h]

/-- With the bus idle a transaction is outstanding after `offBus` only if it was issued (R156). -/
theorem State.offBus_txn_of_none (o : Operation) {s : State} (h : s.txn = none) :
    (s.offBus o).txn = none ∨ opDone o s = false ∧ opNeed o ≤ s.opnd.length ∧ s.offBus o = s.issue o := by
  rcases offBus_cases o s with ⟨-, -, hb⟩ | ⟨-, -, hb⟩ | ⟨-, -, hb⟩ | hissue
  · exact .inl (by simp [hb, h])
  · exact .inl (by simp [hb, h])
  · exact .inl (by simp [hb, h])
  · exact .inr hissue

theorem sequencerAction_onBus {s : State} {o : Operation} {tx : Txn} (hq : s.seq = .executing) (ho : s.op = some o)
    (htx : s.txn = some tx) : sequencerAction s = .next (s.onBus o s.busIn) := by
  simp [sequencerAction, sequencer, State.operate, State.execute, hq, ho, htx]

theorem sequencerAction_offBus {s : State} {o : Operation} (hq : s.seq = .executing) (ho : s.op = some o)
    (htx : s.txn = none) : sequencerAction s = .next (s.offBus o) := by
  simp [sequencerAction, sequencer, State.operate, State.execute, hq, ho, htx]

/-- The Sequencer puts a transaction on an idle bus only by issuing one in `Executing` (R156, R164). -/
theorem sequencerAction_txn_of_none {s u : State} (h : sequencerAction s = .next u) (htx : s.txn = none) :
    u.txn = none ∨
    s.seq = .executing ∧ ∃ o, s.op = some o ∧ opDone o s = false ∧ opNeed o ≤ s.opnd.length ∧ u = s.issue o := by
  rcases sequencer_cases h with ⟨-, rfl⟩ | ⟨hq, -, hdec⟩ | ⟨-, -, rfl⟩ | ⟨-, o, tx, -, hsome, -⟩ | ⟨hq, o, ho, -, rfl⟩ |
    ⟨-, rfl⟩ | ⟨-, rfl⟩
  · exact .inl htx
  · obtain ⟨o, ho⟩ := runHeader_awaiting hq
    cases ho.symm.trans hdec
    exact .inl htx
  · exact .inl htx
  · simp [htx] at hsome
  · rcases State.offBus_txn_of_none o htx with hnone | ⟨hd, hn, hissue⟩
    · exact .inl hnone
    · exact .inr ⟨hq, o, ho, hd, hn, hissue⟩
  · exact .inl (State.complete_txn_of_none htx)
  · exact .inl htx

/-- A command leaves the outstanding transaction and `seq` alone, or drops the transaction; if it drops the transaction of
a run, it ends that run. -/
theorem exec_txn {w : CmdWord} {u v : State} (h : exec (decodeCmd w) u = .next v) :
    v.txn = u.txn ∧ v.seq = u.seq ∨ v.txn = none ∧ (u.running = true → v.running = false) := by
  rcases command_cases w u with ⟨c, d, -, he⟩ | ⟨c, d, -, hr, he⟩ | ⟨c, d, -, hr, he⟩ | ⟨c, d, -, -, -, he⟩ |
    ⟨c, d, -, -, -, he⟩ | ⟨cause, -, he⟩ <;> cases he.symm.trans h
  case inl => exact .inl ⟨rfl, rfl⟩
  case inr.inl | inr.inr.inl => exact .inr ⟨rfl, by simp [hr]⟩
  case inr.inr.inr.inl | inr.inr.inr.inr.inl => exact .inl ⟨rfl, rfl⟩
  case inr.inr.inr.inr.inr => exact .inr ⟨rfl, fun _ => rfl⟩

/-- The transaction after a step is the one the Sequencer's action left, or the step has dropped it; if it dropped the
transaction of a run, it ended that run. -/
theorem step_txn {s t : State} (h : step s = .next t) :
    ∃ u, sequencerAction s = .next u ∧
      (t.txn = u.txn ∧ t.seq = u.seq ∨ t.txn = none ∧ (u.running = true → t.running = false)) := by
  obtain ⟨u, v, hseq, hcmd, rfl⟩ := cycle_cases h
  refine ⟨u, hseq, ?_⟩
  rcases checkSufficient_cases Config.hdrLen v with ⟨-, hfail⟩ | ⟨-, hpass⟩
  · exact .inr (by simp [hfail])
  · simp only [endCycle_txn, endCycle_seq, endCycle_running, hpass]
    rcases hcmd with ⟨-, rfl⟩ | ⟨w, -, hexec⟩
    · exact .inl ⟨rfl, rfl⟩
    · exact exec_txn hexec

/-! ### The wait cycle (R155, R212) -/

/-- What holds in every cycle a run waits for the target to answer `tx`. -/
structure WaitsOnBus (tx : Txn) (s : State) : Prop where
  executing : s.seq = .executing
  operation : ∃ o, s.op = some o
  outstanding : s.txn = some tx
  sufficient : insufficient Config.hdrLen s = false

theorem waitsOnBus_of_machineInv {s : State} {tx : Txn} (hinv : MachineInv s) (htx : s.txn = some tx) :
    WaitsOnBus tx s := by
  have hq : s.seq = .executing := hinv.txnExecuting (by simp [htx])
  obtain ⟨o, ho, -⟩ := hinv.working (.inl hq)
  exact ⟨hq, ⟨o, ho⟩, htx, hinv.sufficient⟩

/-- No command is accepted while a transaction is outstanding, so a cycle without `ready` is its end alone. -/
theorem WaitsOnBus.step_eq {tx : Txn} {s : State} (h : WaitsOnBus tx s) (hready : s.busIn.ready = false) :
    step s = .next (endCycle Config.hdrLen s s) := by
  obtain ⟨hq, ⟨o, ho⟩, htx, hsuff⟩ := h
  have hacc : s.canAccept = false := by simp [State.canAccept, htx]
  have hwait : s.onBus o s.busIn = s := by simp [State.onBus, hready]
  have hpass : s.checkSufficient Config.hdrLen = s := by simp [State.checkSufficient, hsuff]
  rw [step_of_no_command (accepted_none_of_not_canAccept hacc) (sequencerAction_onBus hq ho htx), hwait, hpass]

theorem WaitsOnBus.endCycle_self {tx : Txn} {s : State} (h : WaitsOnBus tx s) :
    WaitsOnBus tx (endCycle Config.hdrLen s s) :=
  ⟨h.executing, h.operation, h.outstanding, h.sufficient⟩

theorem stepsTo_succ {n : Nat} {s s' t : State} (h : step s = .next s') : StepsTo (n + 1) s t ↔ StepsTo n s' t := by
  have hcore : core.step s = .next s' := h
  simp [StepsTo, Host.Core.run, hcore]

/-- The wait has no bound: `n` cycles without `ready` end in a state that still waits for `tx`. -/
theorem WaitsOnBus.stepsTo {tx : Txn} (n : Nat) {s : State} (h : WaitsOnBus tx s)
    (hready : ∀ (k : Nat) (u : State), k < n → StepsTo k s u → u.busIn.ready = false) :
    ∃ t, StepsTo n s t ∧ WaitsOnBus tx t := by
  induction n generalizing s with
  | zero => exact ⟨s, rfl, h⟩
  | succ n ih =>
    have hstep := h.step_eq (hready 0 s (by omega) rfl)
    obtain ⟨t, ht, hwaits⟩ := ih h.endCycle_self fun k u hk hu =>
      hready (k + 1) u (by omega) ((stepsTo_succ hstep).2 hu)
    exact ⟨t, (stepsTo_succ hstep).2 ht, hwaits⟩

end Sys2Proof.Machine
end

section
/-! PROOFS. The obligation on the timing of one transaction of 43_bus_transaction_codec.md. -/

namespace Sys2Proof.BusTransactionCodec

open Sys2Proof.Machine

/-- The transaction a step issues is outstanding in the next cycle, if the run goes on (R212, cycle `t+1`). -/
theorem step_issues {s t : State} {o : Operation} (hq : s.seq = .executing) (htx : s.txn = none) (ho : s.op = some o)
    (hdone : opDone o s = false) (hlen : opNeed o ≤ s.opnd.length) (hstep : step s = .next t)
    (hrun : t.running = true) : t.txn = some (issuedTxn o s) := by
  have hissue : s.offBus o = s.issue o := by simp [State.offBus, hdone, hlen]
  obtain ⟨u, hseq, hcases⟩ := step_txn hstep
  rw [sequencerAction_offBus hq ho htx, hissue] at hseq
  cases hseq
  rcases hcases with ⟨hkeep, -⟩ | ⟨-, hend⟩
  · exact hkeep
  · have hended : t.running = false := hend (by simp [State.running, hq])
    simp [hrun] at hended

/-- After the answer no transaction is outstanding (R212, the cycle after `r`). -/
theorem step_retires {s t : State} {tx : Txn} (h : WaitsOnBus tx s) (hready : s.busIn.ready = true)
    (hstep : step s = .next t) : t.txn = none := by
  obtain ⟨hq, ⟨o, ho⟩, htx, -⟩ := h
  obtain ⟨u, hseq, hcases⟩ := step_txn hstep
  cases (sequencerAction_onBus hq ho htx).symm.trans hseq
  rcases hcases with ⟨hkeep, -⟩ | ⟨hnone, -⟩
  · rw [hkeep, State.onBus_txn_of_ready o s hready]
  · exact hnone

/-- A transaction that was not outstanding before a step was issued in it, by the operation of the run. -/
theorem issued_of_step {s t : State} {tx : Txn} (hinv : MachineInv s) (hidle : s.txn = none) (hstep : step s = .next t)
    (htx : t.txn = some tx) :
    s.seq = .executing ∧ t.seq = .executing ∧
      ∃ o, s.op = some o ∧ opDone o s = false ∧ s.opnd.length = opNeed o ∧ tx = issuedTxn o s := by
  obtain ⟨u, hseq, ⟨hkeep, hkeepSeq⟩ | ⟨hnone, -⟩⟩ := step_txn hstep
  · rcases sequencerAction_txn_of_none hseq hidle with hnone | ⟨hq, o, ho, hdone, hlen, rfl⟩
    · simp [hkeep, hnone] at htx
    · obtain ⟨o', ho', hop⟩ := hinv.working (.inl hq)
      cases ho.symm.trans ho'
      refine ⟨hq, hkeepSeq.trans hq, o, ho, hdone, le_antisymm hop.groupBounded hlen, ?_⟩
      exact Option.some.inj (htx.symm.trans hkeep)
  · simp [hnone] at htx

/-- Settles O44: the issue by `step_issues`, the wait by induction on its length (`WaitsOnBus.stepsTo`), the retirement by
`step_retires`, and "only by issue" by `issued_of_step`. -/
theorem transactionStaysUntilReady : Obligations.TransactionStaysUntilReady := by
  intro s hinv
  refine ⟨fun o t hq hidle ho hdone hlen hstep hrun => ?_, fun tx n htx hready => ?_,
    fun t hbusy hready hstep => ?_, fun tx t => issued_of_step hinv⟩
  · have htx := step_issues hq hidle ho hdone hlen.ge hstep hrun
    exact ⟨htx, by simp [busReq_of_txn_some htx]⟩
  · obtain ⟨t, ht, hwaits⟩ := (waitsOnBus_of_machineInv hinv htx).stepsTo n hready
    have hwires := busReq_of_txn_some hwaits.outstanding
    exact ⟨t, ht, hwaits.outstanding, hwires.trans (busReq_of_txn_some htx).symm, by simp [hwires]⟩
  · obtain ⟨tx, htx⟩ := Option.ne_none_iff_exists'.1 hbusy
    have hnone := step_retires (waitsOnBus_of_machineInv hinv htx) hready hstep
    exact ⟨hnone, busReq_of_txn_none hnone⟩

end Sys2Proof.BusTransactionCodec
end

section
/-! SUPPORT. The front end's lemmas: when no command can be accepted (R152), and what the autonomous front end shows and
writes in `NoFetch` (R241). -/

namespace Sys2Proof.Machine

/-- No command can be accepted while a transaction is outstanding, nor from a run's `data-last` to its terminal cycle. -/
theorem canAccept_false_of_busy {s : State} (h : s.txn ≠ none ∨ s.running = true ∧ s.lastSeen = true) :
    s.canAccept = false := by
  refine Bool.eq_false_iff.2 fun hacc => ?_
  obtain ⟨htxn, -, hopen⟩ := (canAccept_iff s).1 hacc
  rcases h with hbusy | ⟨hr, hl⟩
  · exact hbusy htxn
  · simp [hopen hr] at hl

theorem presented_noFetch {s : State} (h : s.frontEnd = .autonomous) (hf : s.fstate = .noFetch) :
    s.presented = none := by
  simp [State.presented, h, hf]

theorem storeReq_noFetch {s : State} (h : s.frontEnd = .autonomous) (hf : s.fstate = .noFetch) :
    s.storeReq = some { read := s.canAccept, addr := s.ip } := by
  simp [State.storeReq, h, hf]

theorem nextFetch_noFetch {s : State} (h : s.frontEnd = .autonomous) (hf : s.fstate = .noFetch) :
    s.nextIp = s.ip ∧ s.nextFetch = if s.canAccept then .pending s.params.fetchLatency else .noFetch := by
  rcases nextFetch_cases h with ⟨-, hnext⟩ | ⟨k, hk, -⟩ | ⟨k, hk, -⟩ | ⟨w, hw, -⟩
  case inl => exact hnext
  all_goals simp_all

/-- The front end's own registers after a step are written from the state at its start, whatever the core did in it. -/
theorem step_fetch {s t : State} (h : step s = .next t) : t.ip = s.nextIp ∧ t.fstate = s.nextFetch := by
  obtain ⟨u, v, -, -, rfl⟩ := cycle_cases h
  simp

end Sys2Proof.Machine
end

section
/-! PROOFS. The obligation on the start of a fetch of 45_autonomous_front_end.md. -/

namespace Sys2Proof.AutonomousFrontEnd

open Sys2Proof.Machine

/-- Settles O52: `NoFetch` is left exactly when a command can be accepted, which `canAccept_false_of_busy` excludes in the
two situations of R241's consequence. -/
theorem fetchStartsWhenCommandCanBeAccepted : Obligations.FetchStartsWhenCommandCanBeAccepted := by
  intro s hauto hnoFetch
  refine ⟨presented_noFetch hauto hnoFetch, storeReq_noFetch hauto hnoFetch, fun t hstep => ?_⟩
  obtain ⟨hip, hfetch⟩ := step_fetch hstep
  obtain ⟨hnextIp, hnext⟩ := nextFetch_noFetch hauto hnoFetch
  have hstate : t.fstate = if s.canAccept then .pending s.params.fetchLatency else .noFetch := hfetch.trans hnext
  refine ⟨hip.trans hnextIp, hstate, fun hbusy => ?_⟩
  simpa [canAccept_false_of_busy hbusy] using hstate

end Sys2Proof.AutonomousFrontEnd
end

section
/-! SUPPORT. Laws of the exceptions (60_exceptions.md): which parts of a cycle raise, with which cause, and what a step that
raises leaves. -/

namespace Sys2Proof.Machine

/-! ### The Sequencer's own action (R155, R157, R265, R266) -/

@[simp] theorem State.retireOk_seq (o : Operation) (v : Word) (s : State) : (s.retireOk o v).seq = s.seq := by
  rcases retireOk_cases o v s with ⟨-, h⟩ | ⟨-, h⟩ | ⟨-, h⟩ <;> simp [h]

theorem seq_ne_errored_of_running {s : State} (h : s.running = true) : s.seq ≠ .errored :=
  fun hq => by simp [State.running, hq] at h

/-- The Sequencer raises nothing but the bus fault of an answered transaction and the exhaustion of a poll; in every other
case it keeps `resid`. -/
theorem sequencerAction_raises {s u : State} (h : sequencerAction s = .next u) :
    (u.seq ≠ .errored ∧ u.resid = s.resid) ∨
    (s.txn ≠ none ∧ s.busIn.ready = true ∧ s.busIn.err = true ∧ u = s.fail .busFault) ∨
    u = s.enterPollFailed := by
  rcases sequencer_cases h with ⟨hq, rfl⟩ | ⟨hq, -, hdec⟩ | ⟨hq, -, rfl⟩ | ⟨hq, o, tx, -, htx, rfl⟩ | ⟨hq, o, -, -, rfl⟩ |
    ⟨hq, rfl⟩ | ⟨-, rfl⟩
  · exact .inl ⟨by simp [hq], rfl⟩
  · obtain ⟨o, ho⟩ := runHeader_awaiting hq
    cases ho.symm.trans hdec
    exact .inl ⟨by simp, rfl⟩
  · exact .inl ⟨by simp [hq], rfl⟩
  · rcases onBus_cases o s.busIn s with ⟨-, hb⟩ | ⟨hready, herr, hb⟩ | ⟨-, -, hb⟩
    · exact .inl (by simp [hb, hq])
    · exact .inr (.inl ⟨by simp [htx], hready, herr, hb⟩)
    · exact .inl (by simp [hb, hq])
  · have hrun : (s.offBus o).running = true := (State.offBus_running o hq).trans (by simp [State.running, hq])
    exact .inl ⟨seq_ne_errored_of_running hrun, State.offBus_resid o s⟩
  · rcases complete_cases s with ⟨-, hc⟩ | ⟨-, -, hc⟩ | ⟨-, -, hc⟩
    · exact .inl (by simp [hc, hq])
    · exact .inr (.inr hc)
    · exact .inl (by simp [hc])
  · exact .inl ⟨by simp, rfl⟩

/-! ### The accepted command (R127, R128, R135, R136) -/

/-- A command leaves `Errored` behind only by finding it or by failing. -/
theorem exec_errored {w : CmdWord} {u v : State} (h : exec (decodeCmd w) u = .next v) (hv : v.seq = .errored) :
    v = u ∨ ∃ cause, cause ≠ .pollExhausted ∧ v = u.fail cause := by
  rcases command_cases w u with ⟨c, d, -, he⟩ | ⟨c, d, -, -, he⟩ | ⟨c, d, -, -, he⟩ | ⟨c, d, -, -, hr, he⟩ |
    ⟨c, d, -, -, hr, he⟩ | ⟨cause, hcause, he⟩ <;> cases he.symm.trans h
  case inl => exact .inl rfl
  case inr.inl | inr.inr.inl => simp at hv
  case inr.inr.inr.inl | inr.inr.inr.inr.inl => exact absurd hv (seq_ne_errored_of_running hr)
  case inr.inr.inr.inr.inr => exact .inr ⟨cause, hcause, rfl⟩

theorem startCommand_cases {opened s v : State} (h : startCommand opened s = .next v) :
    v = opened ∨ v = s.fail .incompleteOperation := by
  unfold startCommand at h
  split at h <;> cases h <;> simp

theorem payloadCommand_cases {c : BitVec 3} {taken s v : State} (h : payloadCommand c taken s = .next v) :
    v = taken ∨ v = s.fail .invalidByteCount ∨ v = s.fail .incompleteOperation := by
  unfold payloadCommand at h
  split at h
  · cases h; simp
  · split at h <;> cases h <;> simp

/-- No command raises a bus fault. -/
theorem exec_busFault {w : CmdWord} {u v : State} (h : exec (decodeCmd w) u = .next v)
    (hv : v.resid = some .busFault) : u.resid = some .busFault := by
  rcases decodeCmd_cases w with hw | hw | hw | hw | hw | hw | hw | hw <;> rw [hw] at h
  case inl => cases h; exact hv
  case inr.inl | inr.inr.inl => rcases startCommand_cases h with rfl | rfl <;> simp_all
  case inr.inr.inr.inl | inr.inr.inr.inr.inl => rcases payloadCommand_cases h with rfl | rfl | rfl <;> simp_all
  all_goals cases h; simp at hv

/-! ### The step (R161, R264) -/

/-- A step that ends in `Errored` is the end of a cycle whose core went through `fail`. -/
theorem step_errored {s t : State} (h : step s = .next t) (ht : t.seq = .errored) :
    ∃ (u : State) (cause : Cause), cause ≠ .pollExhausted ∧ t = endCycle Config.hdrLen s (u.fail cause) := by
  obtain ⟨u, v, hseq, hcmd, rfl⟩ := cycle_cases h
  rcases checkSufficient_cases Config.hdrLen v with ⟨-, hfail⟩ | ⟨-, hpass⟩
  · exact ⟨v, .incompleteOperation, by decide, by rw [hfail]⟩
  rw [hpass] at ht ⊢
  have hcore : v = u ∨ ∃ cause, cause ≠ .pollExhausted ∧ v = u.fail cause := by
    rcases hcmd with ⟨-, rfl⟩ | ⟨w, -, hexec⟩
    · exact .inl rfl
    · exact exec_errored hexec ht
  rcases hcore with rfl | ⟨cause, hcause, rfl⟩
  · rcases sequencerAction_raises hseq with ⟨hne, -⟩ | ⟨-, -, -, rfl⟩ | rfl
    · exact absurd ht hne
    · exact ⟨s, .busFault, by decide, rfl⟩
    · simp at ht
  · exact ⟨u, cause, hcause, rfl⟩

/-- A `BusFault` after a step was there before it, or the target answered a transaction with an error in its cycle. -/
theorem step_busFault {s t : State} (h : step s = .next t) (ht : t.resid = some .busFault) :
    s.resid = some .busFault ∨ s.txn ≠ none ∧ s.busIn.ready = true ∧ s.busIn.err = true := by
  obtain ⟨u, v, hseq, hcmd, rfl⟩ := cycle_cases h
  have hv : v.resid = some .busFault := by
    rcases checkSufficient_cases Config.hdrLen v with ⟨-, hfail⟩ | ⟨-, hpass⟩
    · simp [hfail] at ht
    · simpa [hpass] using ht
  have hu : u.resid = some .busFault := by
    rcases hcmd with ⟨-, rfl⟩ | ⟨w, -, hexec⟩
    · exact hv
    · exact exec_busFault hexec hv
  rcases sequencerAction_raises hseq with ⟨-, hkeep⟩ | ⟨htx, hready, herr, -⟩ | rfl
  · exact .inl (hkeep ▸ hu)
  · exact .inr ⟨htx, hready, herr⟩
  · simp at hu

/-! ### The retire cycle with an error (R155, R265) -/

/-- Whatever the operation, an error in the retire cycle fails the run. -/
theorem State.operate_busFault (o : Operation) {s : State} (hq : s.seq = .executing) (htx : s.txn ≠ none)
    (hready : s.busIn.ready = true) (herr : s.busIn.err = true) : s.operate o = s.fail .busFault := by
  obtain ⟨tx, htx⟩ := Option.ne_none_iff_exists'.1 htx
  simp [State.operate, State.execute, State.onBus, hq, htx, hready, herr]

/-- No command is accepted in the retire cycle and a failed run is not checked for sufficiency, so a bus error alone decides
the step. -/
theorem step_of_busError {s : State} (hq : s.seq = .executing) (hop : s.op ≠ none) (htx : s.txn ≠ none)
    (hready : s.busIn.ready = true) (herr : s.busIn.err = true) :
    step s = .next (endCycle Config.hdrLen s (s.fail .busFault)) := by
  obtain ⟨o, ho⟩ := Option.ne_none_iff_exists'.1 hop
  have hseq : sequencerAction s = .next (s.fail .busFault) := by
    simp [sequencerAction, sequencer, hq, ho, State.operate_busFault o hq htx hready herr]
  have hcmd := accepted_none_of_not_canAccept (canAccept_false_of_busy (.inl htx))
  rw [step_of_no_command hcmd hseq, checkSufficient_self _ (.inl rfl)]

end Sys2Proof.Machine
end

section
/-! PROOFS. The obligations on the exceptions of 60_exceptions.md. -/

namespace Sys2Proof.Exceptions

open Sys2Proof.Machine

/-- Settles O19: what `fail` writes is its definition; a step that ends in `Errored` is a failed state with the end of the
cycle (`step_errored`), and the end of a cycle leaves it cleared. -/
theorem failClearsRunAndSavesCause : Obligations.FailClearsRunAndSavesCause := by
  refine ⟨fun c s => ⟨rfl, rfl⟩, fun s t h ht => ?_⟩
  obtain ⟨u, cause, hcause, rfl⟩ := step_errored h ht
  exact ⟨endCycle_fail_cleared cause _ s u, ⟨cause, rfl, hcause⟩, rfl, rfl, rfl, rfl⟩

/-- Settles O20: every operation fails in the retire cycle with an error and the step keeps that; a `BusFault` has no other
source (`step_busFault`). -/
theorem busErrorEndsRun : Obligations.BusErrorEndsRun := by
  refine ⟨fun a s hq htx hready herr => ?_, fun s hq hop htx hready herr => ?_, fun s t h hquiet ht => ?_⟩
  · have hfail (o : Operation) : Host.Outcome.next (s.operate o) = (.next (s.fail .busFault) : Result) :=
      congrArg _ (State.operate_busFault o hq htx hready herr)
    exact ⟨hfail _, hfail _, hfail _, hfail _⟩
  · exact ⟨_, step_of_busError hq hop htx hready herr, rfl, rfl, rfl, by simp⟩
  · rcases step_busFault h ht with hres | ⟨htx, hready, -⟩
    · exact hres
    · simp [htx, hready] at hquiet

end Sys2Proof.Exceptions
end

section
/-! SUPPORT. Laws of the encodings (30_encoding.md): the bytes of a number, the fields of a command word and of a header
word, and the decoder on the bytes of a word. -/

namespace Sys2Proof

/-! ### Bytes of a number (R11) -/

/-- Little-endian assembly undoes `bytes_LE`, as far as the bytes reach. -/
theorem leNat_bytesLE (v k : Nat) : leNat (bytesLE v k) = v % 256 ^ k := by
  induction k generalizing v with
  | zero => simp [bytesLE, leNat, Nat.mod_one]
  | succ k ih => simp [bytesLE, leNat, ih, Nat.pow_succ', Nat.mod_mul]

theorem leWord_bytesLE (w : Word) : leWord (bytesLE w.toNat 4) = w := by
  have hw : w.toNat % 256 ^ 4 = w.toNat := Nat.mod_eq_of_lt w.isLt
  rw [leWord, leNat_bytesLE, hw, BitVec.ofNat_toNat, BitVec.setWidth_eq]

/-! ### The fields of a command word (R90) -/

theorem toNat_append_eq_add {m n : Nat} (a : BitVec m) (b : BitVec n) : (a ++ b).toNat = a.toNat * 2 ^ n + b.toNat := by
  rw [BitVec.toNat_append, ← Nat.shiftLeft_add_eq_or_of_lt b.isLt, Nat.shiftLeft_eq]

theorem cmdWord_toNat (op c : BitVec 3) (d : BitVec 48) :
    (cmdWord op c d).toNat = op.toNat * 2 ^ 51 + c.toNat * 2 ^ 48 + d.toNat := by
  rw [cmdWord, toNat_append_eq_add, toNat_append_eq_add]
  omega

@[simp] theorem cmdWord_opcode (op c : BitVec 3) (d : BitVec 48) : (cmdWord op c d).extractLsb' 51 3 = op := by
  refine BitVec.eq_of_toNat_eq ?_
  have := op.isLt
  have := c.isLt
  have := d.isLt
  rw [BitVec.extractLsb'_toNat, cmdWord_toNat, Nat.shiftRight_eq_div_pow]
  omega

@[simp] theorem cmdWord_count (op c : BitVec 3) (d : BitVec 48) : (cmdWord op c d).extractLsb' 48 3 = c := by
  refine BitVec.eq_of_toNat_eq ?_
  have := op.isLt
  have := c.isLt
  have := d.isLt
  rw [BitVec.extractLsb'_toNat, cmdWord_toNat, Nat.shiftRight_eq_div_pow]
  omega

@[simp] theorem cmdWord_data (op c : BitVec 3) (d : BitVec 48) : (cmdWord op c d).extractLsb' 0 48 = d := by
  refine BitVec.eq_of_toNat_eq ?_
  have := d.isLt
  rw [BitVec.extractLsb'_toNat, cmdWord_toNat, Nat.shiftRight_eq_div_pow]
  omega

/-- A command word is made of its three fields. -/
theorem cmdWord_fields (w : CmdWord) :
    cmdWord (w.extractLsb' 51 3) (w.extractLsb' 48 3) (w.extractLsb' 0 48) = w := by
  refine BitVec.eq_of_toNat_eq ?_
  have := w.isLt
  simp only [cmdWord_toNat, BitVec.extractLsb'_toNat, Nat.shiftRight_eq_div_pow]
  omega

/-! ### The command a word is (R91) -/

/-- The command with the given fields (R90, R91). -/
def commandOf (op c : BitVec 3) (d : BitVec 48) : Instr :=
  match op.toNat with
  | 0 => .idle c d
  | 1 => .start c d
  | 2 => .startclr c d
  | 3 => .data c d
  | 4 => .datalast c d
  | 5 => .illegal5 c d
  | 6 => .illegal6 c d
  | _ => .illegal7 c d

theorem decodeCmd_eq_commandOf (w : CmdWord) :
    decodeCmd w = commandOf (w.extractLsb' 51 3) (w.extractLsb' 48 3) (w.extractLsb' 0 48) := rfl

theorem decodeCmd_cmdWord (op c : BitVec 3) (d : BitVec 48) : decodeCmd (cmdWord op c d) = commandOf op c d := by
  simp [decodeCmd_eq_commandOf]

theorem opcode_cases (op : BitVec 3) :
    op = 0#3 ∨ op = 1#3 ∨ op = 2#3 ∨ op = 3#3 ∨ op = 4#3 ∨ op = 5#3 ∨ op = 6#3 ∨ op = 7#3 := by
  revert op
  decide

theorem encodeNat_commandOf (op c : BitVec 3) (d : BitVec 48) :
    encodeNat (commandOf op c d) = (cmdWord op c d).toNat := by
  rcases opcode_cases op with rfl | rfl | rfl | rfl | rfl | rfl | rfl | rfl <;> rfl

theorem encodedLength_commandOf (op c : BitVec 3) (d : BitVec 48) : encodedLength (commandOf op c d) = 7 := by
  rcases opcode_cases op with rfl | rfl | rfl | rfl | rfl | rfl | rfl | rfl <;> rfl

/-! ### The fields of a header word (R96) -/

theorem hdrWord_toNat (a : Word) (k : BitVec 2) : (hdrWord a k).toNat = a.toNat / 4 * 4 + k.toNat := by
  have := a.isLt
  rw [hdrWord, toNat_append_eq_add, BitVec.extractLsb'_toNat, Nat.shiftRight_eq_div_pow]
  omega

@[simp] theorem hdrWord_select (a : Word) (k : BitVec 2) : (hdrWord a k).extractLsb' 0 2 = k := by
  refine BitVec.eq_of_toNat_eq ?_
  have := k.isLt
  rw [BitVec.extractLsb'_toNat, hdrWord_toNat, Nat.shiftRight_eq_div_pow]
  omega

/-- A header word is made of its two fields. -/
theorem hdrWord_fields (h : Word) : hdrWord h (h.extractLsb' 0 2) = h := by
  refine BitVec.eq_of_toNat_eq ?_
  rw [hdrWord_toNat, BitVec.extractLsb'_toNat, Nat.shiftRight_eq_div_pow]
  omega

/-- The address mask keeps the address field and clears `grp` and `dir`. -/
theorem hdrWord_and_addrMask (a : Word) (k : BitVec 2) : hdrWord a k &&& 0xFFFFFFFC#32 = hdrWord a 0#2 := by
  have hmask : (0xFFFFFFFC#32 : BitVec 32) = (BitVec.allOnes 30 ++ 0#2 : BitVec (30 + 2)) := by decide
  unfold hdrWord
  rw [hmask, Laws.RowMatch.append_and_append, BitVec.and_allOnes, BitVec.and_zero]

theorem and_addrMask (h : Word) : h &&& 0xFFFFFFFC#32 = hdrWord h 0#2 := by
  conv_lhs => rw [← hdrWord_fields h]
  exact hdrWord_and_addrMask _ _

/-- The encoding takes the address field of the address alone, so clearing the other bits changes nothing. -/
@[simp] theorem hdrWord_hdrWord (a : Word) (j k : BitVec 2) : hdrWord (hdrWord a j) k = hdrWord a k := by
  refine BitVec.eq_of_toNat_eq ?_
  have := j.isLt
  rw [hdrWord_toNat, hdrWord_toNat, hdrWord_toNat]
  omega

theorem hdrWord_of_aligned {a : Word} (h : addrAligned a = true) : hdrWord a 0#2 = a := by
  have hlow : a.extractLsb' 0 2 = 0#2 := eq_of_beq h
  rw [← hlow, hdrWord_fields]

/-! ### The operation a header word selects (R191) -/

/-- The operation with the given `grp`,`dir` bits (R191). -/
def operationOf (k : BitVec 2) (a : Word) : Instr :=
  match k.toNat with
  | 0 => .rd a
  | 1 => .wz a
  | 2 => .poll a
  | _ => .wr a

theorem decodeHdr_eq_operationOf (h : Word) :
    decodeHdr h = operationOf (h.extractLsb' 0 2) (h &&& 0xFFFFFFFC#32) := rfl

theorem decodeHdr_hdrWord (a : Word) (k : BitVec 2) : decodeHdr (hdrWord a k) = operationOf k (hdrWord a 0#2) := by
  simp [decodeHdr_eq_operationOf, hdrWord_and_addrMask]

theorem select_cases (k : BitVec 2) : k = 0#2 ∨ k = 1#2 ∨ k = 2#2 ∨ k = 3#2 := by
  revert k
  decide

theorem encodeNat_operationOf (k : BitVec 2) (a : Word) : encodeNat (operationOf k a) = (hdrWord a k).toNat := by
  rcases select_cases k with rfl | rfl | rfl | rfl <;> rfl

/-! ### The decoder on the bytes of a word -/

theorem decode_four_bytes (h : Word) : decode (bytesLE h.toNat 4) = .ok (decodeHdr h) :=
  congrArg (fun x => Decoded.ok (decodeHdr x)) (leWord_bytesLE h)

theorem decode_seven_bytes (w : CmdWord) : decode (bytesLE w.toNat 7) = .ok (decodeCmd w) := by
  have hw : leNat (bytesLE w.toNat 7) = w.toNat := by
    have := w.isLt
    rw [leNat_bytesLE, Nat.mod_eq_of_lt (by omega)]
  have hdec : decode (bytesLE w.toNat 7) =
      if leNat (bytesLE w.toNat 7) < 2 ^ 54 then
        .ok (decodeCmd (BitVec.ofNat 54 (leNat (bytesLE w.toNat 7))))
      else .rejected .bitsAboveCommandWord := rfl
  rw [hdec, hw, if_pos w.isLt, BitVec.ofNat_toNat, BitVec.setWidth_eq]

/-- The decoder on the bytes of a command word with the given fields. -/
theorem decode_cmdWord (op c : BitVec 3) (d : BitVec 48) :
    decode (bytesLE (cmdWord op c d).toNat 7) = .ok (commandOf op c d) := by
  rw [decode_seven_bytes, decodeCmd_cmdWord]

/-- The decoder on the bytes of a header word with an aligned address. -/
theorem decode_hdrWord {a : Word} (k : BitVec 2) (h : addrAligned a = true) :
    decode (bytesLE (hdrWord a k).toNat 4) = .ok (operationOf k a) := by
  rw [decode_four_bytes, decodeHdr_hdrWord, hdrWord_of_aligned h]

/-! ### The rows of the opcode table (R106) -/

theorem decodeTableWord_cmd (w : CmdWord) : decodeTableWord 56 w.toNat = some (decodeCmd w) := by
  have hw : w.toNat < 256 ^ tableBytes 56 := w.isLt.trans (by decide)
  have hdec : decode (bytesLE w.toNat (tableBytes 56)) = .ok (decodeCmd w) := decode_seven_bytes w
  simp [decodeTableWord, hw, hdec]

theorem decodeTableWord_hdr (h : Word) : decodeTableWord 32 h.toNat = some (decodeHdr h) := by
  have hh : h.toNat < 256 ^ tableBytes 32 := h.isLt
  have hdec : decode (bytesLE h.toNat (tableBytes 32)) = .ok (decodeHdr h) := decode_four_bytes h
  simp [decodeTableWord, hh, hdec]

theorem opcode_of_masked {w m : CmdWord} (h : w &&& 0x38000000000000#54 = m) :
    w.extractLsb' 51 3 = m.extractLsb' 51 3 := by
  have hmask := Laws.RowMatch.cmdWord_and_mask (w.extractLsb' 51 3) (w.extractLsb' 48 3) (w.extractLsb' 0 48)
  rw [cmdWord_fields, h] at hmask
  simp [hmask]

theorem select_of_masked {h m : Word} (hm : h &&& 0x00000003#32 = m) : h.extractLsb' 0 2 = m.extractLsb' 0 2 := by
  have hmask := Laws.RowMatch.hdrWord_and_mask h (h.extractLsb' 0 2)
  rw [hdrWord_fields, hm] at hmask
  simp [hmask]

/-- A match under the command rows' mask selects the command of that opcode. -/
theorem decodeTableWord_of_masked_cmd {w m : CmdWord} (h : w &&& 0x38000000000000#54 = m) :
    decodeTableWord 56 w.toNat =
      some (commandOf (m.extractLsb' 51 3) (w.extractLsb' 48 3) (w.extractLsb' 0 48)) := by
  rw [decodeTableWord_cmd, decodeCmd_eq_commandOf, opcode_of_masked h]

/-- A match under the header rows' mask selects the operation of those bits. -/
theorem decodeTableWord_of_masked_hdr {h m : Word} (hm : h &&& 0x00000003#32 = m) :
    decodeTableWord 32 h.toNat = some (operationOf (m.extractLsb' 0 2) (h &&& 0xFFFFFFFC#32)) := by
  rw [decodeTableWord_hdr, decodeHdr_eq_operationOf, select_of_masked hm]

end Sys2Proof

namespace Sys2Proof.Machine

/-! ### The payload bytes of a command (R93) -/

/-- The data bits at and above `8 * count` take no part in the payload. -/
theorem payloadBytes_congr {c : BitVec 3} {d d' : BitVec 48} (hc : c ≠ 7#3)
    (h : ∀ i, i < 8 * c.toNat → d.getLsbD i = d'.getLsbD i) : payloadBytes c d = payloadBytes c d' := by
  refine List.ext_getElem? fun i => ?_
  by_cases hi : i < c.toNat
  · rw [payloadBytes_getElem? d hc hi, payloadBytes_getElem? d' hc hi]
    congr 1
    ext j hj
    simpa [hj] using h (8 * i + j) (by omega)
  · rw [List.getElem?_eq_none (by rw [payloadBytes_length d hc]; omega),
      List.getElem?_eq_none (by rw [payloadBytes_length d' hc]; omega)]

/-! ### The grammar of scripts (R103, R105) -/

theorem count_of_length_ne_seven {n : Nat} (h : n ≤ 6) : (BitVec.ofNat 3 n != 7#3) = true := by
  refine bne_iff_ne.2 fun he => ?_
  have hnat := congrArg BitVec.toNat he
  simp only [BitVec.toNat_ofNat] at hnat
  omega

/-- At most six bytes make a legal `DATA`, which the grammar has inside a run. -/
theorem next_dataCommand {l : List Byte} (h : l.length ≤ 6) :
    ScriptPlace.next .insideRun (dataCommand l) = some .insideRun :=
  if_pos (count_of_length_ne_seven h)

/-- At most six bytes make a legal `DATALAST`, after which the grammar wants an `idle`. -/
theorem next_dataLastCommand {l : List Byte} (h : l.length ≤ 6) :
    ScriptPlace.next .insideRun (dataLastCommand l) = some .needsIdle :=
  if_pos (count_of_length_ne_seven h)

theorem next_startFor (clear : Bool) : ScriptPlace.next .beforeStart (startFor clear) = some .insideRun := by
  cases clear <;> rfl

theorem next_idleCommand : ScriptPlace.next .needsIdle idleCommand = some .afterRun := rfl

@[simp] theorem headerBytes_length (a : Word) (k : Nat) : (headerBytes a k).length = 4 := bytesLE_length _ _

end Sys2Proof.Machine
end

section
/-! PROOFS. The obligations on the encodings of 30_encoding.md. -/

namespace Sys2Proof.Encoding

open Sys2Proof.Machine

/-- Settles O7: the bytes are those of a command word or of a header word with the row's opcode or select bits, which the
decoder reads back field by field (`decode_cmdWord`, `decode_hdrWord`). -/
theorem decodeOfEncodeIsIdentity : Obligations.DecodeOfEncodeIsIdentity := by
  intro i hwf
  cases i with
  | idle c d => exact decode_cmdWord 0#3 c d
  | start c d => exact decode_cmdWord 1#3 c d
  | startclr c d => exact decode_cmdWord 2#3 c d
  | data c d => exact decode_cmdWord 3#3 c d
  | datalast c d => exact decode_cmdWord 4#3 c d
  | illegal5 c d => exact decode_cmdWord 5#3 c d
  | illegal6 c d => exact decode_cmdWord 6#3 c d
  | illegal7 c d => exact decode_cmdWord 7#3 c d
  | rd a => exact decode_hdrWord 0#2 hwf
  | wz a => exact decode_hdrWord 1#2 hwf
  | poll a => exact decode_hdrWord 2#2 hwf
  | wr a => exact decode_hdrWord 3#2 hwf

/-- Settles O8: a word is made of its fields, and encoding puts the decoded fields back (`encodeNat_commandOf`,
`encodeNat_operationOf`). -/
theorem encodeOfDecodeIsIdentity : Obligations.EncodeOfDecodeIsIdentity := by
  refine ⟨fun w => ?_, fun h => ?_⟩
  · have hnat : encodeNat (decodeCmd w) = w.toNat := by
      rw [decodeCmd_eq_commandOf, encodeNat_commandOf, cmdWord_fields]
    have hlen : encodedLength (decodeCmd w) = 7 := encodedLength_commandOf _ _ _
    exact ⟨hnat, by rw [encodeCmdWord, if_pos hlen, hnat, BitVec.ofNat_toNat, BitVec.setWidth_eq]⟩
  · rw [decodeHdr_eq_operationOf, encodeNat_operationOf, and_addrMask, hdrWord_hdrWord, hdrWord_fields]

/-- Settles O9: the mask keeps the opcode or select bits, which choose the row. -/
theorem tableRowsSelectInstructions : Obligations.TableRowsSelectInstructions := by
  refine ⟨fun w => ?_, fun h => ?_⟩
  · exact ⟨decodeTableWord_of_masked_cmd, decodeTableWord_of_masked_cmd, decodeTableWord_of_masked_cmd,
      decodeTableWord_of_masked_cmd, decodeTableWord_of_masked_cmd, decodeTableWord_of_masked_cmd,
      decodeTableWord_of_masked_cmd, decodeTableWord_of_masked_cmd⟩
  · exact ⟨decodeTableWord_of_masked_hdr, decodeTableWord_of_masked_hdr, decodeTableWord_of_masked_hdr,
      decodeTableWord_of_masked_hdr⟩

/-- Settles O10: closed words, by evaluation of the decoder. -/
theorem spelledWordsDecode : Obligations.SpelledWordsDecode := by
  unfold Obligations.SpelledWordsDecode
  decide

/-- Settles O11: every command is in its place of the grammar, as no chunk has more than six bytes. -/
theorem pseudoInstructionsAreScripts : Obligations.PseudoInstructionsAreScripts := by
  intro clear a m v
  simp [scriptMatches, pseudoRd, pseudoWz, pseudoWr, pseudoPoll, ScriptPlace.run, next_startFor, next_idleCommand,
    next_dataCommand, next_dataLastCommand]

/-- Settles O51: the meanings of the commands without payload do not take count or data; payload commands read the data
through `payloadBytes` alone, and not at all with count 7. -/
theorem ignoredFieldsChangeNothing : Obligations.IgnoredFieldsChangeNothing := by
  intro c c' d d' s
  refine ⟨rfl, rfl, rfl, rfl, rfl, rfl, fun hbits => ?_⟩
  by_cases hc : c = 7#3
  · subst hc
    exact ⟨(exec_data_seven d s).trans (exec_data_seven d' s).symm,
      (exec_datalast_seven d s).trans (exec_datalast_seven d' s).symm⟩
  · have happend : s.append c d = s.append c d' := by
      rw [State.append, State.append, payloadBytes_congr hc hbits]
    exact ⟨congrArg (payloadCommand c · s) happend,
      congrArg (fun u : State => payloadCommand c { u with lastSeen := true } s) happend⟩

end Sys2Proof.Encoding
end

section
/-! SUPPORT. The engine over a header layout (42_operations.md section 1): the default layout's decoder is the decoder of
header words, its records are lawful, and the step is the cycle of that layout. -/

namespace Sys2Proof.Machine

/-! ### The records of the default layout (R191) -/

/-- The record a header with the given `grp`,`dir` bits stands for (R191). -/
def recordOf (budget : Nat) (k : BitVec 2) (a : Word) : Operation :=
  match k.getLsbD 1, k.getLsbD 0 with
  | false, false => rdOperation a
  | false, true => wzOperation a
  | true, false => pollOperation a budget
  | true, true => wrOperation a

theorem decodeHeaderDefault_eq (budget : Nat) (l : List Byte) :
    decodeHeaderDefault budget l =
      recordOf budget ((leWord l).extractLsb' 0 2) (leWord l &&& 0xFFFFFFFC#32) := by
  have h1 : ((leWord l).extractLsb' 0 2).getLsbD 1 = (leWord l).getLsbD 1 := by simp
  have h0 : ((leWord l).extractLsb' 0 2).getLsbD 0 = (leWord l).getLsbD 0 := by simp
  rw [recordOf, h1, h0]
  rfl

/-- Every record of the default layout is that of one of the four operations. -/
theorem decodeHeaderDefault_cases (budget : Nat) (l : List Byte) :
    ∃ a, decodeHeaderDefault budget l = rdOperation a ∨ decodeHeaderDefault budget l = wzOperation a ∨
      decodeHeaderDefault budget l = pollOperation a budget ∨ decodeHeaderDefault budget l = wrOperation a := by
  rw [decodeHeaderDefault_eq]
  refine ⟨leWord l &&& 0xFFFFFFFC#32, ?_⟩
  rcases select_cases ((leWord l).extractLsb' 0 2) with h | h | h | h <;> rw [h]
  exacts [.inl rfl, .inr (.inl rfl), .inr (.inr (.inl rfl)), .inr (.inr (.inr rfl))]

theorem hlDefault_lawful {n : Nat} (h : 1 ≤ n) : (hlDefault n).Lawful := by
  refine ⟨Nat.le_of_ble_eq_true rfl, fun l _ => ?_⟩
  obtain ⟨a, hl | hl | hl | hl⟩ := decodeHeaderDefault_cases n l <;>
    simp [hlDefault, hl, Operation.lawful, rdOperation, wzOperation, pollOperation, wrOperation, h]

/-! ### The decode cycle (R154, R191) -/

/-- An operation instruction does in a cycle what its record does. -/
theorem exec_operationOf (k : BitVec 2) (a : Word) (s : State) :
    exec (operationOf k a) s = .next (s.operate (recordOf s.params.pollBudget k a)) := by
  rcases select_cases k with rfl | rfl | rfl | rfl <;> rfl

/-- The instruction in the header is the record the default layout decodes it to. -/
theorem runHeader_eq_decodeWith (s : State) : runHeader s = decodeWith (hlDefault s.params.pollBudget) s := by
  rw [runHeader, decodeHdr_eq_operationOf, exec_operationOf, ← decodeHeaderDefault_eq]
  rfl

/-- The Sequencer runs the decode cycle in the state of the cycle's start only. -/
theorem sequencer_congr {h : Nat} {dec dec' : State → Result} {s : State} (hdec : dec s = dec' s) :
    sequencer h dec s = sequencer h dec' s := by
  simp [sequencer, hdec]

theorem step_eq_cycleOf (s : State) : step s = cycleOf (hlDefault s.params.pollBudget) s := by
  have hseq : sequencer Config.hdrLen runHeader s =
      sequencer Config.hdrLen (decodeWith (hlDefault s.params.pollBudget)) s :=
    sequencer_congr (runHeader_eq_decodeWith s)
  simp only [step, cycleOf, cycle, coreCycle, hseq]
  rfl

end Sys2Proof.Machine
end

section
/-! SUPPORT. The invariants of R50 along a cycle, over any lawful header layout: what each part of a cycle keeps of the
run. -/

namespace Sys2Proof.Machine

/-! ### When an operation is done (R163) -/

theorem opDone_poll_iff {o : Operation} {s : State} (hk : o.kind = .poll) :
    opDone o s = true ↔ s.pollMet = true ∨ s.attempts = o.budget := by
  simp [opDone, hk]

theorem opDone_other_iff {o : Operation} {s : State} (hk : o.kind ≠ .poll) :
    opDone o s = true ↔ s.transDone = o.ntrans := by
  cases h : o.kind <;> simp_all [opDone]

theorem not_opDone_poll_iff {o : Operation} {s : State} (hk : o.kind = .poll) :
    opDone o s = false ↔ s.pollMet = false ∧ s.attempts ≠ o.budget := by
  simp [opDone, hk]

theorem not_opDone_other_iff {o : Operation} {s : State} (hk : o.kind ≠ .poll) :
    opDone o s = false ↔ s.transDone ≠ o.ntrans := by
  cases h : o.kind <;> simp_all [opDone]

@[simp] theorem opDone_endCycle (o : Operation) (n : Nat) (s t : State) : opDone o (endCycle n s t) = opDone o t := by
  simp [opDone]

@[simp] theorem issuedTxn_endCycle (o : Operation) (n : Nat) (s t : State) :
    issuedTxn o (endCycle n s t) = issuedTxn o t := by
  simp [issuedTxn]

/-! ### What retirement keeps (R165) -/

@[simp] theorem State.retireOk_acc (o : Operation) (v : Word) (s : State) : (s.retireOk o v).acc = s.acc := by
  rcases retireOk_cases o v s with ⟨-, h⟩ | ⟨-, h⟩ | ⟨-, h⟩ <;> simp [h]

@[simp] theorem State.retireOk_hdr (o : Operation) (v : Word) (s : State) : (s.retireOk o v).hdr = s.hdr := by
  rcases retireOk_cases o v s with ⟨-, h⟩ | ⟨-, h⟩ | ⟨-, h⟩ <;> simp [h]

@[simp] theorem State.retireOk_op (o : Operation) (v : Word) (s : State) : (s.retireOk o v).op = s.op := by
  rcases retireOk_cases o v s with ⟨-, h⟩ | ⟨-, h⟩ | ⟨-, h⟩ <;> simp [h]

@[simp] theorem State.retireOk_lastSeen (o : Operation) (v : Word) (s : State) :
    (s.retireOk o v).lastSeen = s.lastSeen := by
  rcases retireOk_cases o v s with ⟨-, h⟩ | ⟨-, h⟩ | ⟨-, h⟩ <;> simp [h]

/-! ### Lawful records (R190) -/

theorem opndLen_of_lawful_read {o : Operation} (h : o.lawful = true) (hk : o.kind = .read) : o.opndLen = 0 := by
  simp only [Operation.lawful, hk, Bool.and_eq_true, beq_iff_eq] at h
  exact h.1.1

theorem budget_of_lawful_poll {o : Operation} (h : o.lawful = true) (hk : o.kind = .poll) : 1 ≤ o.budget := by
  simp only [Operation.lawful, hk, Bool.and_eq_true, decide_eq_true_eq] at h
  exact h.2

/-! ### The invariants of the run -/

/-- The payload bytes that retired transactions have used (R23, R165). -/
def usedBytes (s : State) : Nat :=
  match s.op with
  | some o => s.transDone * o.opndLen
  | none => 0

/-- The invariants of `Inv` that speak of the run. Each part of a cycle keeps them by itself; sufficiency of the payload,
which only the check at its end restores, is not among them. -/
structure RunInv (L : Config.HeaderLayout) (s : State) : Prop where
  txnExecuting : s.txn ≠ none → s.seq = .executing
  clearedOutsideRun : s.running = false → Cleared s
  hdrBounded : s.hdr.length ≤ L.hdrLen
  awaiting : s.seq = .awaitingAddress →
    s.op = none ∧ s.opnd = [] ∧ s.transDone = 0 ∧ s.attempts = 0 ∧ s.pollMet = false ∧ s.outcome = .ok ∧ s.rbuf = []
  working : s.seq = .executing ∨ s.seq = .completing → ∃ o, s.op = some o ∧ OperationInv L o s
  completingLast : s.seq = .completing → s.lastSeen = true
  bytesConserved : s.acc = s.hdr.length + s.q.length + s.opnd.length + usedBytes s

theorem runInv_of_inv {L : Config.HeaderLayout} {s : State} (h : Inv L s) : RunInv L s :=
  ⟨h.txnExecuting, h.clearedOutsideRun, h.hdrBounded, h.awaiting, h.working, h.completingLast, h.bytesConserved⟩

theorem usedBytes_of_op {s : State} {o : Operation} (ho : s.op = some o) : usedBytes s = s.transDone * o.opndLen := by
  simp [usedBytes, ho]

theorem usedBytes_of_no_op {s : State} (ho : s.op = none) : usedBytes s = 0 := by
  simp [usedBytes, ho]

@[simp] theorem usedBytes_endCycle (n : Nat) (s t : State) : usedBytes (endCycle n s t) = usedBytes t := by
  cases ho : t.op <;> simp [usedBytes, ho]

@[simp] theorem insufficient_endCycle (k n : Nat) (s t : State) :
    insufficient k (endCycle n s t) = insufficient k t := by
  unfold insufficient
  rw [endCycle_running, endCycle_lastSeen, endCycle_acc, endCycle_op]

/-- Where the run state is clear and no operation is worked on, the invariants of the run hold. -/
theorem RunInv.of_cleared {L : Config.HeaderLayout} {s : State} (h : Cleared s) (he : s.seq ≠ .executing)
    (hc : s.seq ≠ .completing) : RunInv L s := by
  have hfields : s.clearRun = s := h
  rw [← hfields]
  exact {
    txnExecuting := absurd rfl
    clearedOutsideRun := fun _ => rfl
    hdrBounded := Nat.zero_le _
    awaiting := fun _ => ⟨rfl, rfl, rfl, rfl, rfl, rfl, rfl⟩
    working := fun hq => (hq.elim he hc).elim
    completingLast := fun hq => absurd hq hc
    bytesConserved := rfl }

end Sys2Proof.Machine

namespace Sys2Proof

open Machine

/-! ### The operation's part -/

variable {L : Config.HeaderLayout} {o : Operation} {s : State}

/-- The decode cycle starts an operation with nothing done (R154). -/
theorem OperationInv.of_decode (hL : L.Lawful) (h : RunInv L s) (hq : s.seq = .awaitingAddress)
    (hlen : s.hdr.length = L.hdrLen) :
    OperationInv L (L.decodeHeader s.hdr) (s.enterExecuting (L.decodeHeader s.hdr)) := by
  obtain ⟨-, hopnd, htrans, hattempts, hmet, hout, hrbuf⟩ := h.awaiting hq
  have htxn : s.txn = none := not_not.1 fun htx => by simp [h.txnExecuting htx] at hq
  exact {
    decoded := ⟨hlen, rfl⟩
    groupBounded := by simp [hopnd]
    transBounded := by simp [htrans]
    attemptsBounded := by simp [hattempts]
    ofPoll := fun _ => ⟨htrans, hrbuf⟩
    ofOther := fun _ => ⟨hattempts, hmet, hout⟩
    ofWrite := fun _ => hrbuf
    resultsBounded := by simp [hrbuf]
    pollOutcome := fun hk => by
      have hbudget := budget_of_lawful_poll (hL.2 s.hdr hlen) hk
      simp only [State.enterExecuting_outcome, State.enterExecuting_attempts, hout, hattempts, reduceCtorEq, false_iff]
      omega
    outstanding := by simp [htxn]
    finished := by simp }

/-- A consumption pulse into the operand group stays in the group (R130). -/
theorem OperationInv.popOpnd {n : Nat} (h : OperationInv L o s) (htx : s.txn = none) (hq : s.seq = .executing)
    (hn : n ≤ o.opndLen - s.opnd.length) : OperationInv L o (s.popOpnd n) :=
  { h with
    groupBounded := by
      have := h.groupBounded
      simp only [State.popOpnd_opnd, List.length_append, List.length_take]
      omega
    outstanding := by simp [htx]
    finished := by simp [hq] }

/-- An issue puts the operation's own transaction on the bus (R156, R164). -/
theorem OperationInv.issue (h : OperationInv L o s) (hdone : opDone o s = false) (hlen : opNeed o ≤ s.opnd.length)
    (hq : s.seq = .executing) : OperationInv L o (s.issue o) :=
  { h with
    outstanding := fun tx htx => ⟨(Option.some.inj htx).symm, hdone, le_antisymm h.groupBounded hlen⟩
    finished := by simp [hq] }

/-- A done operation leaves for `Completing` (R156). -/
theorem OperationInv.leave (h : OperationInv L o s) (hdone : opDone o s = true) (htx : s.txn = none) :
    OperationInv L o { s with seq := .completing } :=
  { h with
    outstanding := by simp [htx]
    finished := fun _ => hdone }

/-- A command that stays in the run writes nothing of the operation: it touches the queue, `acc` and `lastSeen` only. -/
theorem OperationInv.payload (h : OperationInv L o s) (q : List Byte) (acc : Nat) (last : Bool) :
    OperationInv L o { s with q := q, acc := acc, lastSeen := last } :=
  { h with }

/-- The end of a cycle takes result bytes from the head of the buffer and writes nothing else of the operation. -/
theorem OperationInv.endCycle (h : OperationInv L o s) (n : Nat) (start : State) :
    OperationInv L o (Machine.endCycle n start s) where
  decoded := by simpa using h.decoded
  groupBounded := by simpa using h.groupBounded
  transBounded := by simpa using h.transBounded
  attemptsBounded := by simpa using h.attemptsBounded
  ofPoll := fun hk => by simp [h.ofPoll hk]
  ofOther := by simpa using h.ofOther
  ofWrite := fun hk => by simp [h.ofWrite hk]
  resultsBounded := by
    have := h.resultsBounded
    simp only [endCycle_rbuf, endCycle_transDone, List.length_drop]
    omega
  pollOutcome := by simpa using h.pollOutcome
  outstanding := by simpa using h.outstanding
  finished := by simpa using h.finished

/-- A read that retires: one transaction more, and its bytes (R165, R193). -/
theorem OperationInv.retireRead (h : OperationInv L o s) (hk : o.kind = .read) (v : Word)
    (hdone : opDone o s = false) (hq : s.seq = .executing) : OperationInv L o (s.retireRead v o.rbytes) :=
  { h with
    transBounded := by
      have := h.transBounded
      have hleft := (not_opDone_other_iff (by simp [hk])).1 hdone
      simp only [State.retireRead_transDone]
      omega
    ofPoll := by simp [hk]
    ofWrite := by simp [hk]
    resultsBounded := by
      have := h.resultsBounded
      simp only [State.retireRead_rbuf, State.retireRead_transDone, List.length_append, resultBytes, bytesLE_length,
        Nat.mul_add, Nat.mul_one]
      omega
    outstanding := by simp
    finished := by simp [hq] }

/-- A write that retires: one transaction more, and an empty group (R165, R194, R196). -/
theorem OperationInv.retireWrite (h : OperationInv L o s) (hk : o.kind = .write) (hdone : opDone o s = false)
    (hq : s.seq = .executing) : OperationInv L o s.retireWrite :=
  { h with
    groupBounded := by simp
    transBounded := by
      have := h.transBounded
      have hleft := (not_opDone_other_iff (by simp [hk])).1 hdone
      simp only [State.retireWrite_transDone]
      omega
    ofPoll := by simp [hk]
    resultsBounded := by simp [h.ofWrite hk]
    outstanding := by simp
    finished := by simp [hq] }

/-- A poll attempt that retires: one attempt more, and `PollFail` when it was the last and missed (R165, R195). -/
theorem OperationInv.retirePoll (h : OperationInv L o s) (hk : o.kind = .poll) (v : Word)
    (hdone : opDone o s = false) (hq : s.seq = .executing) : OperationInv L o (s.retirePoll v o.budget) := by
  obtain ⟨hmet, hleft⟩ := (not_opDone_poll_iff hk).1 hdone
  have hout : s.outcome ≠ .pollFail := fun hf => hleft ((h.pollOutcome hk).1 hf).2
  exact { h with
    attemptsBounded := by
      have := h.attemptsBounded
      simp only [State.retirePoll_attempts]
      omega
    ofOther := absurd hk
    pollOutcome := fun _ => by cases hhit : pollHit s.opnd v <;> simp [hhit, hmet, hout]
    outstanding := by simp
    finished := by simp [hq] }

/-- Retirement counts a transaction or an attempt that was not beyond the operation's last (R165). -/
theorem OperationInv.retireOk (h : OperationInv L o s) (v : Word) (hdone : opDone o s = false)
    (hq : s.seq = .executing) : OperationInv L o (s.retireOk o v) := by
  rcases retireOk_cases o v s with ⟨hk, hr⟩ | ⟨hk, hr⟩ | ⟨hk, hr⟩ <;> rw [hr]
  exacts [h.retireRead hk v hdone hq, h.retireWrite hk hdone hq, h.retirePoll hk v hdone hq]

/-- With its group complete, the payload a retired transaction has used is what its group held (R23, R165). -/
theorem usedBytes_retireOk (hlawful : o.lawful = true) (v : Word)
    (ho : s.op = some o) (hlen : s.opnd.length = o.opndLen) :
    (s.retireOk o v).opnd.length + usedBytes (s.retireOk o v) = s.opnd.length + usedBytes s := by
  rcases retireOk_cases o v s with ⟨hk, hr⟩ | ⟨hk, hr⟩ | ⟨hk, hr⟩ <;> rw [hr]
  · have hzero := opndLen_of_lawful_read hlawful hk
    simp [usedBytes, ho, hzero]
  · simp [usedBytes, ho, hlen, Nat.add_mul, Nat.add_comm]
  · simp [usedBytes, ho]

theorem OperationInv.lawful (h : OperationInv L o s) (hL : L.Lawful) : o.lawful = true := by
  obtain ⟨hlen, ho⟩ := h.decoded
  rw [ho]
  exact hL.2 _ hlen

/-- In `Executing` the operation of the run is the recorded one. -/
theorem Machine.RunInv.operation (h : RunInv L s) (hq : s.seq = .executing) (ho : s.op = some o) : OperationInv L o s := by
  obtain ⟨o', ho', hop⟩ := h.working (.inl hq)
  cases ho.symm.trans ho'
  exact hop

end Sys2Proof

namespace Sys2Proof.Machine

variable {L : Config.HeaderLayout} {o : Operation} {s : State}

/-! ### The Sequencer's own action (R153 to R158) -/

theorem RunInv.fail (c : Cause) : RunInv L (s.fail c) := .of_cleared rfl (by simp) (by simp)

/-- Inside a run, in `Executing`, the invariants of the run are those of its operation, and the count of bytes. -/
theorem RunInv.of_executing (hhdr : s.hdr.length ≤ L.hdrLen) (hq : s.seq = .executing) (ho : s.op = some o)
    (hop : OperationInv L o s)
    (hbytes : s.acc = s.hdr.length + s.q.length + s.opnd.length + usedBytes s) : RunInv L s where
  txnExecuting := fun _ => hq
  clearedOutsideRun := by simp [State.running, hq]
  hdrBounded := hhdr
  awaiting := by simp [hq]
  working := fun _ => ⟨o, ho, hop⟩
  completingLast := by simp [hq]
  bytesConserved := hbytes

/-- The decode cycle (R154). -/
theorem RunInv.decode (hL : L.Lawful) (h : RunInv L s) (hq : s.seq = .awaitingAddress)
    (hlen : s.hdr.length = L.hdrLen) : RunInv L (s.enterExecuting (L.decodeHeader s.hdr)) := by
  obtain ⟨hop, -, htrans, -⟩ := h.awaiting hq
  refine .of_executing hlen.le rfl rfl (.of_decode hL h hq hlen) ?_
  have hbytes := h.bytesConserved
  rw [usedBytes_of_no_op hop] at hbytes
  simpa [usedBytes, htrans] using hbytes

/-- A consumption pulse into the header stays in the header (R130, R154). -/
theorem RunInv.popHdr (h : RunInv L s) (hq : s.seq = .awaitingAddress) :
    RunInv L (s.popHdr (pulseSize s s.hdr.length L.hdrLen)) := by
  obtain ⟨-, hn, hroom⟩ := pulseSize_le s s.hdr.length L.hdrLen
  have hbound := h.hdrBounded
  have hbytes := h.bytesConserved
  exact { h with
    clearedOutsideRun := by simp [State.running, hq]
    hdrBounded := by
      simp only [State.popHdr_hdr, List.length_append, List.length_take]
      omega
    working := by simp [hq]
    bytesConserved := by
      have hused : usedBytes (s.popHdr (pulseSize s s.hdr.length L.hdrLen)) = usedBytes s := rfl
      simp only [State.popHdr_acc, State.popHdr_hdr, State.popHdr_q, State.popHdr_opnd, List.length_append,
        List.length_take, List.length_drop, hused]
      omega }

/-- `Executing` with the bus idle (R156). -/
theorem RunInv.offBus (h : RunInv L s) (hq : s.seq = .executing) (htx : s.txn = none) (ho : s.op = some o) :
    RunInv L (s.offBus o) := by
  have hop := h.operation hq ho
  have hbytes := h.bytesConserved
  rcases offBus_cases o s with ⟨hdone, hlast, hb⟩ | ⟨-, -, hb⟩ | ⟨-, hlen, hb⟩ | ⟨hdone, hlen, hb⟩ <;> rw [hb]
  · exact { h with
      txnExecuting := absurd htx
      clearedOutsideRun := by simp [State.running]
      awaiting := by simp
      working := fun _ => ⟨o, ho, hop.leave hdone htx⟩
      completingLast := fun _ => hlast }
  · exact h
  · obtain ⟨-, hn, hgroup⟩ := pulseSize_le s s.opnd.length (opNeed o)
    refine .of_executing h.hdrBounded hq ho (hop.popOpnd htx hq hgroup) ?_
    have hused : usedBytes (s.popOpnd (pulseSize s s.opnd.length (opNeed o))) = usedBytes s := rfl
    simp only [State.popOpnd_acc, State.popOpnd_hdr, State.popOpnd_q, State.popOpnd_opnd, List.length_append,
      List.length_take, List.length_drop, hused]
    omega
  · exact .of_executing h.hdrBounded hq ho (hop.issue hdone hlen hq) hbytes

/-- `Executing` with a transaction outstanding (R155). -/
theorem RunInv.onBus {tx : Txn} (hL : L.Lawful) (h : RunInv L s) (hq : s.seq = .executing) (htx : s.txn = some tx)
    (ho : s.op = some o) (b : BusResp) : RunInv L (s.onBus o b) := by
  have hop := h.operation hq ho
  obtain ⟨-, hdone, hlen⟩ := hop.outstanding tx htx
  rcases onBus_cases o b s with ⟨-, hb⟩ | ⟨-, -, hb⟩ | ⟨-, -, hb⟩ <;> rw [hb]
  · exact h
  · exact .fail _
  · have hused := usedBytes_retireOk (hop.lawful hL) b.rdata ho hlen
    have hbytes := h.bytesConserved
    refine .of_executing (o := o) ?_ ?_ ?_ (hop.retireOk b.rdata hdone hq) ?_
    · simpa using h.hdrBounded
    · simpa using hq
    · simpa using ho
    · simp only [State.retireOk_acc, State.retireOk_hdr, State.retireOk_q]
      omega

theorem RunInv.complete (h : RunInv L s) : RunInv L s.complete := by
  rcases complete_cases s with ⟨-, hc⟩ | ⟨-, -, hc⟩ | ⟨-, -, hc⟩ <;> rw [hc]
  exacts [h, .of_cleared rfl (by simp) (by simp), .of_cleared rfl (by simp) (by simp)]

theorem RunInv.returnToIdle (h : RunInv L s) (hterm : s.terminal = true) : RunInv L s.returnToIdle :=
  .of_cleared (congrArg State.returnToIdle (h.clearedOutsideRun (running_of_terminal hterm))) (by simp) (by simp)

/-- The Sequencer's own action keeps the invariants of the run. -/
theorem RunInv.sequencer {u : State} (hL : L.Lawful) (h : RunInv L s)
    (hs : Machine.sequencer L.hdrLen (decodeWith L) s = .next u) : RunInv L u := by
  rcases sequencer_cases hs with ⟨-, rfl⟩ | ⟨hq, hlen, hdec⟩ | ⟨hq, -, rfl⟩ | ⟨hq, o, tx, ho, htx, rfl⟩ |
    ⟨hq, o, ho, htx, rfl⟩ | ⟨-, rfl⟩ | ⟨hterm, rfl⟩
  · exact h
  · have hu : u = s.enterExecuting (L.decodeHeader s.hdr) := by
      simpa [decodeWith, State.operate, hq] using hdec.symm
    exact hu ▸ h.decode hL hq hlen
  · exact h.popHdr hq
  · exact h.onBus hL hq htx ho _
  · exact h.offBus hq htx ho
  · exact h.complete
  · exact h.returnToIdle hterm

/-! ### The accepted command (R121 to R128) -/

/-- Payload accepted in a run is in the queue and counted (R129). -/
theorem RunInv.payload (h : RunInv L s) (hrun : s.running = true) (l : List Byte) (last : Bool)
    (hlast : s.lastSeen = true → last = true) :
    RunInv L { s with q := s.q ++ l, acc := s.acc + l.length, lastSeen := last } :=
  { h with
    clearedOutsideRun := fun hr => absurd (hrun.symm.trans hr) (by simp)
    working := fun hq => by
      obtain ⟨o, ho, hop⟩ := h.working hq
      exact ⟨o, ho, hop.payload _ _ _⟩
    completingLast := fun hq => hlast (h.completingLast hq)
    bytesConserved := by
      have hbytes := h.bytesConserved
      have hused : usedBytes { s with q := s.q ++ l, acc := s.acc + l.length, lastSeen := last } = usedBytes s := rfl
      simp only [List.length_append, hused]
      omega }

theorem RunInv.exec {w : CmdWord} {v : State} (h : RunInv L s) (he : Machine.exec (decodeCmd w) s = .next v) :
    RunInv L v := by
  rcases command_cases w s with ⟨c, d, -, hv⟩ | ⟨c, d, -, -, hv⟩ | ⟨c, d, -, -, hv⟩ | ⟨c, d, -, hc, hr, hv⟩ |
    ⟨c, d, -, hc, hr, hv⟩ | ⟨cause, -, hv⟩ <;> cases hv.symm.trans he
  · exact h
  · exact .of_cleared rfl (by simp) (by simp)
  · exact .of_cleared rfl (by simp) (by simp)
  · have := h.payload hr (payloadBytes c d) s.lastSeen id
    rwa [payloadBytes_length d hc] at this
  · have := h.payload hr (payloadBytes c d) true fun _ => rfl
    rwa [payloadBytes_length d hc] at this
  · exact .fail cause

/-! ### The end of the cycle (R132, R160, R161) -/

theorem RunInv.checkSufficient (h : RunInv L s) (n : Nat) : RunInv L (s.checkSufficient n) := by
  rcases checkSufficient_cases n s with ⟨-, hs⟩ | ⟨-, hs⟩ <;> rw [hs]
  exacts [.fail _, h]

theorem RunInv.endCycle (h : RunInv L s) (n : Nat) (start : State) : RunInv L (Machine.endCycle n start s) where
  txnExecuting := by simpa using h.txnExecuting
  clearedOutsideRun := fun hr => endCycle_cleared n start (h.clearedOutsideRun (by simpa using hr))
  hdrBounded := by simpa using h.hdrBounded
  awaiting := by
    rw [endCycle_seq]
    intro hq
    obtain ⟨hop, hopnd, htrans, hattempts, hmet, hout, hrbuf⟩ := h.awaiting hq
    simp [hop, hopnd, htrans, hattempts, hmet, hout, hrbuf]
  working := by
    rw [endCycle_seq]
    intro hq
    obtain ⟨o, ho, hop⟩ := h.working hq
    exact ⟨o, by rw [endCycle_op, ho], hop.endCycle n start⟩
  completingLast := by simpa using h.completingLast
  bytesConserved := by simpa using h.bytesConserved

/-- After the sufficiency check a run is not short, and the end of the cycle does not change that. -/
theorem sufficient_of_checkSufficient (n : Nat) (start v : State) :
    insufficient n (endCycle n start (v.checkSufficient n)) = false := by
  rw [insufficient_endCycle]
  rcases checkSufficient_cases n v with ⟨-, hs⟩ | ⟨hi, hs⟩ <;> rw [hs]
  · simp [insufficient]
  · exact hi

end Sys2Proof.Machine
end

section
/-! SUPPORT. What the core of a cycle never writes: the front end's registers and the fields that are not the run's (R39,
R63, R161). -/

namespace Sys2Proof.Machine

/-- The fields no action and no command writes: the parameters, which front end it has, the store, the inputs, the time and
the front end's registers. -/
def State.frame (s : State) : Params × FrontEnd × Memory × List Inputs × Nat × StoreAddr × FetchState :=
  (s.params, s.frontEnd, s.store, s.inputs, s.now, s.ip, s.fstate)

variable (s : State) (o : Operation)

theorem State.frame_retireOk (v : Word) : (s.retireOk o v).frame = s.frame := by
  rcases retireOk_cases o v s with ⟨-, h⟩ | ⟨-, h⟩ | ⟨-, h⟩ <;> rw [h] <;> rfl

theorem State.frame_onBus (b : BusResp) : (s.onBus o b).frame = s.frame := by
  rcases onBus_cases o b s with ⟨-, h⟩ | ⟨-, -, h⟩ | ⟨-, -, h⟩ <;> rw [h]
  exacts [rfl, s.frame_retireOk o b.rdata]

theorem State.frame_offBus : (s.offBus o).frame = s.frame := by
  rcases offBus_cases o s with ⟨-, -, h⟩ | ⟨-, -, h⟩ | ⟨-, -, h⟩ | ⟨-, -, h⟩ <;> rw [h] <;> rfl

theorem State.frame_complete : s.complete.frame = s.frame := by
  rcases complete_cases s with ⟨-, h⟩ | ⟨-, -, h⟩ | ⟨-, -, h⟩ <;> rw [h] <;> rfl

theorem State.frame_checkSufficient (n : Nat) : (s.checkSufficient n).frame = s.frame := by
  rcases checkSufficient_cases n s with ⟨-, h⟩ | ⟨-, h⟩ <;> rw [h]
  rfl

theorem State.frame_operate : (s.operate o).frame = s.frame := by
  unfold State.operate State.execute
  cases s.seq with
  | executing => cases s.txn with
    | none => exact s.frame_offBus o
    | some tx => exact s.frame_onBus o _
  | completing => exact s.frame_complete
  | awaitingAddress | idle | completed | pollFailed | errored => rfl

variable {s}

theorem sequencer_frame {h : Nat} {dec : State → Result} {u : State} (hdec : dec s = .next u → u.frame = s.frame)
    (hs : sequencer h dec s = .next u) : u.frame = s.frame := by
  rcases sequencer_cases hs with ⟨-, rfl⟩ | ⟨-, -, hd⟩ | ⟨-, -, rfl⟩ | ⟨-, o, tx, -, -, rfl⟩ | ⟨-, o, -, -, rfl⟩ |
    ⟨-, rfl⟩ | ⟨-, rfl⟩
  exacts [rfl, hdec hd, rfl, s.frame_onBus o _, s.frame_offBus o, s.frame_complete, rfl]

theorem exec_frame {w : CmdWord} {v : State} (h : exec (decodeCmd w) s = .next v) : v.frame = s.frame := by
  rcases command_cases w s with ⟨c, d, -, he⟩ | ⟨c, d, -, -, he⟩ | ⟨c, d, -, -, he⟩ | ⟨c, d, -, -, -, he⟩ |
    ⟨c, d, -, -, -, he⟩ | ⟨cause, -, he⟩ <;> cases he.symm.trans h <;> rfl

/-- A cycle writes the front end's registers from the state at its start, uses up its inputs, and leaves the other fields
that are not the run's alone. -/
theorem cycleOf_frame {L : Config.HeaderLayout} {t : State} (h : cycleOf L s = .next t) :
    t.frame = (s.params, s.frontEnd, s.store, s.inputs.tail, s.now + 1, s.nextIp, s.nextFetch) := by
  obtain ⟨u, v, hseq, hcmd, rfl⟩ := cycle_cases h
  have hu : u.frame = s.frame := by
    refine sequencer_frame (fun hd => ?_) hseq
    cases hd
    exact s.frame_operate _
  have hv : v.frame = u.frame := by
    rcases hcmd with ⟨-, rfl⟩ | ⟨w, -, hexec⟩
    exacts [rfl, exec_frame hexec]
  have hcore := (v.frame_checkSufficient L.hdrLen).trans (hv.trans hu)
  simp only [State.frame, Prod.mk.injEq] at hcore
  obtain ⟨hparams, hfront, hstore, hinputs, hnow, -, -⟩ := hcore
  simp [State.frame, hparams, hfront, hstore, hinputs, hnow]

theorem cycleOf_params {L : Config.HeaderLayout} {t : State} (h : cycleOf L s = .next t) : t.params = s.params :=
  congrArg Prod.fst (cycleOf_frame h)

/-! ### The fetch count (R41, R242) -/

/-- A pending fetch counts from the latency down to 1. -/
theorem nextFetch_count (hlat : 1 ≤ s.params.fetchLatency)
    (hcount : ∀ k, s.fstate = .pending k → 1 ≤ k ∧ k ≤ s.params.fetchLatency) {k : Nat}
    (hk : s.nextFetch = .pending k) : 1 ≤ k ∧ k ≤ s.params.fetchLatency := by
  cases hfront : s.frontEnd with
  | stream => exact hcount k ((nextFetch_stream hfront).2.symm.trans hk)
  | autonomous =>
    rcases nextFetch_cases hfront with ⟨-, -, h⟩ | ⟨j, hj, hlt, -, h⟩ | ⟨j, -, -, -, h⟩ | ⟨w, -, -, h⟩ <;> rw [h] at hk
    · split at hk <;> cases hk
      exact ⟨hlat, le_rfl⟩
    · cases hk
      have := hcount j hj
      omega
    · cases hk
    · split at hk <;> cases hk

/-! ### The step as a total function (R161) -/

theorem exec_total (w : CmdWord) (u : State) : ∃ v, exec (decodeCmd w) u = .next v := by
  rcases command_cases w u with ⟨c, d, -, h⟩ | ⟨c, d, -, -, h⟩ | ⟨c, d, -, -, h⟩ | ⟨c, d, -, -, -, h⟩ |
    ⟨c, d, -, -, -, h⟩ | ⟨cause, -, h⟩ <;> exact ⟨_, h⟩

/-- The command's part of the cycle that began in `s`: it makes `v` of what the Sequencer left, `u` (R161 step 3). -/
abbrev CommandActs (s u v : State) : Prop :=
  (s.accepted = none ∧ v = u) ∨ ∃ w, s.accepted = some w ∧ exec (decodeCmd w) u = .next v

theorem commandActs_total (s u : State) : ∃ v, CommandActs s u v := by
  cases ha : s.accepted with
  | none => exact ⟨u, .inl ⟨ha, rfl⟩⟩
  | some w =>
    obtain ⟨v, hv⟩ := exec_total w u
    exact ⟨v, .inr ⟨w, ha, hv⟩⟩

/-- A step from its parts: the Sequencer's action, the command's, the sufficiency check and the end of the cycle. -/
theorem step_eq_of_parts {u v : State} (hseq : sequencerAction s = .next u) (hcmd : CommandActs s u v) :
    step s = .next (endCycle Config.hdrLen s (v.checkSufficient Config.hdrLen)) := by
  rcases hcmd with ⟨hnone, rfl⟩ | ⟨w, hw, hexec⟩
  · exact step_of_no_command hnone hseq
  · rw [step_of_acceptedCommand (acceptedCommand_of_accepted hw), hseq, andThen_of_next, hexec]
    rfl

theorem step_total (h : s.seq ≠ .executing ∨ s.op ≠ none) : ∃ t, step s = .next t := by
  obtain ⟨u, hseq⟩ := sequencerAction_total h
  obtain ⟨v, hcmd⟩ := commandActs_total s u
  exact ⟨_, step_eq_of_parts hseq hcmd⟩

theorem step_of_no_operation (hq : s.seq = .executing) (ho : s.op = none) : step s = .fault .noOperation := by
  simp [step, cycle, coreCycle, sequencer, hq, ho, andThen]

end Sys2Proof.Machine
end

section
/-! PROOFS. The obligations on the invariants of R50, the header layout and the step as a total function. -/

namespace Sys2Proof.Invariant

open Sys2Proof.Machine

/-- Settles O34: each part of a cycle keeps the run's invariants (`RunInv.sequencer`, `RunInv.exec`, `RunInv.endCycle`), the
check at its end restores sufficiency, and the other fields are the frame's. -/
theorem lawfulLayoutKeepsInvariant : Obligations.LawfulLayoutKeepsInvariant := by
  intro L s t hL hinv h
  have hframe := cycleOf_frame h
  simp only [State.frame, Prod.mk.injEq] at hframe
  obtain ⟨hparams, -, hstore, -, -, -, hfetch⟩ := hframe
  obtain ⟨u, v, hseq, hcmd, ht⟩ := cycle_cases h
  have hu : RunInv L u := (runInv_of_inv hinv).sequencer hL hseq
  have hv : RunInv L v := by
    rcases hcmd with ⟨-, rfl⟩ | ⟨w, -, hexec⟩
    exacts [hu, hu.exec hexec]
  have hrun : RunInv L t := ht ▸ (hv.checkSufficient L.hdrLen).endCycle L.hdrLen s
  exact { hrun with
    params := hparams ▸ hinv.params
    store := hstore ▸ hinv.store
    fetchCount := fun k hk => hparams ▸ nextFetch_count hinv.params.1 hinv.fetchCount (hfetch.symm.trans hk)
    sufficient := ht ▸ sufficient_of_checkSufficient L.hdrLen s v }

/-- Settles O35: the instruction in the header is the record the layout decodes it to (`runHeader_eq_decodeWith`). -/
theorem stepIsCycleOfDefaultLayout : Obligations.StepIsCycleOfDefaultLayout :=
  ⟨step_eq_cycleOf, fun _ => hlDefault_lawful⟩

/-- Settles O33: the machine is the engine with its own default layout, which is lawful, and it keeps its budget. -/
theorem stepKeepsInvariant : Obligations.StepKeepsInvariant := by
  intro s t hinv h
  rw [step_eq_cycleOf] at h
  have ht := lawfulLayoutKeepsInvariant _ s t (hlDefault_lawful hinv.params.2) hinv h
  rwa [← cycleOf_params h] at ht

/-- Settles O2: at reset the run state is clear, and the parameters are successors. -/
theorem resetSatisfiesInvariant : Obligations.ResetSatisfiesInvariant := by
  have hreset (f : FrontEnd) : MachineInv (State.resetOf f) :=
    { RunInv.of_cleared (s := State.resetOf f) rfl nofun nofun with
      params := ⟨Nat.le_add_left 1 _, Nat.le_add_left 1 _⟩
      store := State.reset_store_wf f
      fetchCount := nofun
      sufficient := rfl }
  exact ⟨hreset .autonomous, hreset .stream⟩

/-- Settles O36: the step answers a next state but in `Executing` without an operation (`step_total`,
`step_of_no_operation`), which the invariant excludes. -/
theorem machineNeverStops : Obligations.MachineNeverStops := by
  refine ⟨fun s hinv => step_total ?_, fun s => ?_⟩
  · by_cases hq : s.seq = .executing
    · obtain ⟨o, ho, -⟩ := hinv.working (.inl hq)
      exact .inr (by simp [ho])
    · exact .inl hq
  · by_cases hstop : s.seq = .executing ∧ s.op = none
    · simp [step_of_no_operation hstop.1 hstop.2, hstop]
    · obtain ⟨t, ht⟩ := step_total (not_and_or.1 hstop)
      simp [ht, hstop]

end Sys2Proof.Invariant
end

section
/-! SUPPORT. A cycle of an open run: what the Sequencer's action and an accepted command make of `seq`, of the payload
count and of the operation, and when the sufficiency check fires (R121, R132, R162). -/

namespace Sys2Proof.Machine

variable {s t u v : State}

/-! ### The states by class (R13) -/

theorem idle_or_terminal (h : s.running = false) : s.seq = .idle ∨ s.terminal = true := by
  unfold State.running at h
  unfold State.terminal
  cases hq : s.seq <;> simp_all

theorem running_cases (h : s.running = true) :
    s.seq = .awaitingAddress ∨ s.seq = .executing ∨ s.seq = .completing := by
  unfold State.running at h
  cases hq : s.seq <;> simp_all

/-- A run that can accept a command awaits its header or executes, and its `data-last` has not come. -/
theorem open_of_canAccept (hr : s.running = true) (h : s.canAccept = true) :
    (s.seq = .awaitingAddress ∨ s.seq = .executing) ∧ s.lastSeen = false := by
  obtain ⟨-, hcompl, hlast⟩ := (canAccept_iff s).1 h
  rcases running_cases hr with hq | hq | hq
  exacts [⟨.inl hq, hlast hr⟩, ⟨.inr hq, hlast hr⟩, absurd hq hcompl]

theorem accepted_of_acceptedCommand {i : Instr} (h : acceptedCommand s = some i) :
    ∃ w, s.accepted = some w ∧ decodeCmd w = i :=
  Option.map_eq_some_iff.1 h

theorem canAccept_of_acceptedCommand {i : Instr} (h : acceptedCommand s = some i) : s.canAccept = true := by
  obtain ⟨w, hw, -⟩ := accepted_of_acceptedCommand h
  exact ((accepted_iff s w).1 hw).1

/-! ### The Sequencer's own action -/

theorem sequencerAction_decode (hq : s.seq = .awaitingAddress) (hlen : s.hdr.length = Config.hdrLen) :
    sequencerAction s = .next (s.enterExecuting (decodeHeaderDefault s.params.pollBudget s.hdr)) := by
  have hact : sequencerAction s = runHeader s := by simp [sequencerAction, sequencer, hq, hlen]
  rw [hact, runHeader_eq_decodeWith]
  simp [decodeWith, hlDefault, State.operate, hq]

theorem sequencerAction_popHdr (hq : s.seq = .awaitingAddress) (hlen : s.hdr.length ≠ Config.hdrLen) :
    sequencerAction s = .next (s.popHdr (pulseSize s s.hdr.length Config.hdrLen)) := by
  simp [sequencerAction, sequencer, hq, hlen]

/-- What the Sequencer's action can do, one case for each state and each branch in it (R153 to R158). -/
theorem sequencerAction_cases (h : sequencerAction s = .next u) :
    (s.seq = .idle ∧ u = s) ∨
    (s.seq = .awaitingAddress ∧ s.hdr.length = Config.hdrLen ∧
      u = s.enterExecuting (decodeHeaderDefault s.params.pollBudget s.hdr)) ∨
    (s.seq = .awaitingAddress ∧ s.hdr.length ≠ Config.hdrLen ∧
      u = s.popHdr (pulseSize s s.hdr.length Config.hdrLen)) ∨
    (s.seq = .executing ∧ ∃ o tx, s.op = some o ∧ s.txn = some tx ∧ u = s.onBus o s.busIn) ∨
    (s.seq = .executing ∧ ∃ o, s.op = some o ∧ s.txn = none ∧ u = s.offBus o) ∨
    (s.seq = .completing ∧ u = s.complete) ∨
    (s.terminal = true ∧ u = s.returnToIdle) := by
  refine (sequencer_cases h).imp_right fun hrest => hrest.imp_left fun ⟨hq, hlen, _⟩ => ?_
  cases (sequencerAction_decode hq hlen).symm.trans h
  exact ⟨hq, hlen, rfl⟩

/-- While the run goes on, the Sequencer leaves the payload count, the end mark and `resid` alone, and the operation is the
one known at the end of the cycle. -/
theorem sequencerAction_in_run (h : sequencerAction s = .next u) (hu : u.running = true) :
    u.acc = s.acc ∧ u.lastSeen = s.lastSeen ∧ u.resid = s.resid ∧ u.op = knownOperation s := by
  have hknown (hne : ¬ (s.seq = .awaitingAddress ∧ s.hdr.length = Config.hdrLen)) : knownOperation s = s.op :=
    if_neg hne
  rcases sequencerAction_cases h with ⟨hq, rfl⟩ | ⟨hq, hlen, rfl⟩ | ⟨hq, hlen, rfl⟩ | ⟨hq, o, tx, -, -, rfl⟩ |
    ⟨hq, o, -, -, rfl⟩ | ⟨hq, rfl⟩ | ⟨-, rfl⟩
  · simp [State.running, hq] at hu
  · exact ⟨rfl, rfl, rfl, (if_pos ⟨hq, hlen⟩).symm⟩
  · exact ⟨rfl, rfl, rfl, (hknown (by simp [hlen])).symm⟩
  · rw [hknown (by simp [hq])]
    rcases onBus_cases o s.busIn s with ⟨-, hb⟩ | ⟨-, -, hb⟩ | ⟨-, -, hb⟩
    · simp [hb]
    · simp [hb] at hu
    · simp [hb]
  · rw [hknown (by simp [hq])]
    rcases offBus_cases o s with ⟨-, -, hb⟩ | ⟨-, -, hb⟩ | ⟨-, -, hb⟩ | ⟨-, -, hb⟩ <;> simp [hb]
  · rw [hknown (by simp [hq])]
    rcases complete_cases s with ⟨-, hc⟩ | ⟨-, -, hc⟩ | ⟨-, -, hc⟩
    · simp [hc]
    · simp [hc] at hu
    · simp [hc] at hu
  · simp at hu

/-- Outside a run the Sequencer ends the cycle in `Idle` and writes nothing else (R153, R158). -/
theorem sequencerAction_outside_run (hr : s.running = false) (h : sequencerAction s = .next u) :
    u = s.returnToIdle := by
  rcases idle_or_terminal hr with hq | hterm
  · have hact : sequencerAction s = .next s := by simp [sequencerAction, sequencer, hq]
    cases hact.symm.trans h
    cases s
    simp_all [State.returnToIdle]
  · cases (sequencerAction_terminal hterm).symm.trans h
    rfl

/-! ### The accepted command in a run (R121 to R128, R135) -/

theorem exec_datalast_in_run {c : BitVec 3} (d : BitVec 48) {s : State} (hc : c ≠ 7#3) (h : s.running = true) :
    exec (.datalast c d) s = .next { s.append c d with lastSeen := true } := by
  simp [exec, execDatalast, payloadCommand, hc, h]

/-- What a command makes of an open run: nothing, more payload, or its end, by its class. -/
theorem exec_in_run {w : CmdWord} (hr : u.running = true) (h : exec (decodeCmd w) u = .next v) :
    (∃ c d, decodeCmd w = .idle c d ∧ v = u) ∨
    (∃ c d, decodeCmd w = .data c d ∧ c ≠ 7#3 ∧ v = u.append c d) ∨
    (∃ c d, decodeCmd w = .datalast c d ∧ c ≠ 7#3 ∧ v = { u.append c d with lastSeen := true }) ∨
    (isStart (decodeCmd w) = true ∧ v = u.fail .incompleteOperation) ∨
    ((decodeCmd w).legal = false ∧ ∃ cause, v = u.fail cause) := by
  rcases decodeCmd_cases w with hw | hw | hw | hw | hw | hw | hw | hw <;> rw [hw] at h ⊢
  case inl => cases h; exact .inl ⟨_, _, rfl, rfl⟩
  case inr.inl | inr.inr.inl =>
    simp only [exec, execStart, execStartclr, startCommand, hr, if_true] at h
    cases h
    exact .inr (.inr (.inr (.inl ⟨rfl, rfl⟩)))
  case inr.inr.inr.inl =>
    by_cases hc : w.extractLsb' 48 3 = 7#3
    · rw [hc] at h ⊢
      cases h
      exact .inr (.inr (.inr (.inr ⟨rfl, _, rfl⟩)))
    · cases (exec_data_in_run _ hc hr).symm.trans h
      exact .inr (.inl ⟨_, _, rfl, hc, rfl⟩)
  case inr.inr.inr.inr.inl =>
    by_cases hc : w.extractLsb' 48 3 = 7#3
    · rw [hc] at h ⊢
      cases h
      exact .inr (.inr (.inr (.inr ⟨rfl, _, rfl⟩)))
    · cases (exec_datalast_in_run _ hc hr).symm.trans h
      exact .inr (.inr (.inl ⟨_, _, rfl, hc, rfl⟩))
  all_goals cases h; exact .inr (.inr (.inr (.inr ⟨rfl, _, rfl⟩)))

/-! ### The core of a cycle in a run -/

/-- A run that is open after the command was open before it. -/
theorem running_before_command (hs : s.running = true) (hseq : sequencerAction s = .next u) (hcmd : CommandActs s u v)
    (hv : v.running = true) : u.running = true := by
  rcases hcmd with ⟨-, rfl⟩ | ⟨w, hw, -⟩
  · exact hv
  · exact (sequencerAction_running ((accepted_iff s w).1 hw).1 hseq).trans hs

/-- What an open run holds before the sufficiency check, read off the start of the cycle and the accepted command. -/
theorem core_in_run (hs : s.running = true) (hseq : sequencerAction s = .next u) (hcmd : CommandActs s u v)
    (hv : v.running = true) :
    v.acc = accAfterAccept s ∧ (v.lastSeen = true → EndMarked s) ∧ v.op = knownOperation s := by
  have hu := running_before_command hs hseq hcmd hv
  obtain ⟨hacc, hlast, -, hop⟩ := sequencerAction_in_run hseq hu
  unfold accAfterAccept EndMarked
  rcases hcmd with ⟨hnone, rfl⟩ | ⟨w, hw, hexec⟩
  · rw [acceptedCommand_eq_none.2 hnone]
    exact ⟨hacc, fun hl => .inl (hlast ▸ hl), hop⟩
  rw [acceptedCommand_of_accepted hw]
  rcases exec_in_run hu hexec with ⟨c, d, hdec, rfl⟩ | ⟨c, d, hdec, -, rfl⟩ | ⟨c, d, hdec, -, rfl⟩ | ⟨-, rfl⟩ |
    ⟨-, cause, rfl⟩
  · rw [hdec]
    exact ⟨hacc, fun hl => .inl (hlast ▸ hl), hop⟩
  · rw [hdec]
    exact ⟨congrArg (· + c.toNat) hacc, fun hl => .inl (hlast ▸ hl), hop⟩
  · rw [hdec]
    exact ⟨congrArg (· + c.toNat) hacc, fun _ => .inr ⟨c, d, rfl⟩, hop⟩
  · simp at hv
  · simp at hv

/-! ### The sufficiency check (R132) -/

theorem insufficient_iff (n : Nat) (s : State) :
    insufficient n s = true ↔
      s.running = true ∧ s.lastSeen = true ∧ (s.acc < n ∨ ∃ o, s.op = some o ∧ s.acc < required n o) := by
  unfold insufficient
  cases ho : s.op <;> simp [and_assoc]

/-- A run in `Completing` has passed the check and accepts nothing, so the check does not fire in it. -/
theorem completing_not_insufficient (hq : s.seq = .completing) (hinv : insufficient Config.hdrLen s = false)
    (hseq : sequencerAction s = .next u) (hcmd : CommandActs s u v) : insufficient Config.hdrLen v = false := by
  have hnone := accepted_none_of_not_canAccept (canAccept_completing hq)
  rcases hcmd with ⟨-, rfl⟩ | ⟨w, hw, -⟩
  · have hact : sequencerAction s = .next s.complete := by simp [sequencerAction, sequencer, hq]
    cases hact.symm.trans hseq
    rcases complete_cases s with ⟨-, hc⟩ | ⟨-, -, hc⟩ | ⟨-, -, hc⟩ <;> rw [hc]
    exacts [hinv, by simp [insufficient], by simp [insufficient]]
  · simp [hnone] at hw

/-- The check fires only in a run that awaits its header or executes, whose payload is marked as ended and short. -/
theorem short_of_insufficient (hr : s.running = true) (hinv : insufficient Config.hdrLen s = false)
    (hseq : sequencerAction s = .next u) (hcmd : CommandActs s u v) (hi : insufficient Config.hdrLen v = true) :
    (s.seq = .awaitingAddress ∨ s.seq = .executing) ∧ ShortOfPayload s := by
  obtain ⟨hv, hlast, hshort⟩ := (insufficient_iff _ v).1 hi
  obtain ⟨hacc, hmark, hop⟩ := core_in_run hr hseq hcmd hv
  refine ⟨?_, hmark hlast, by rwa [hacc, hop] at hshort⟩
  rcases running_cases hr with hq | hq | hq
  · exact .inl hq
  · exact .inr hq
  · simp [completing_not_insufficient hq hinv hseq hcmd] at hi

/-! ### The rows of the transition table (R162) -/

/-- The rows of the Sequencer's own action inside a run. -/
theorem seqArc_of_sequencerAction (hr : s.running = true) (hseq : sequencerAction s = .next u) (hne : u.seq ≠ s.seq)
    (ht : t.seq = u.seq) : SeqArc s t := by
  rcases sequencerAction_cases hseq with ⟨-, rfl⟩ | ⟨hq, hlen, rfl⟩ | ⟨-, -, rfl⟩ | ⟨hq, o, tx, -, htx, rfl⟩ |
    ⟨hq, o, ho, htx, rfl⟩ | ⟨hq, rfl⟩ | ⟨hterm, -⟩
  · exact absurd rfl hne
  · exact .decodes hq hlen ht
  · exact absurd rfl hne
  · rcases onBus_cases o s.busIn s with ⟨-, hb⟩ | ⟨hready, herr, hb⟩ | ⟨-, -, hb⟩ <;> rw [hb] at hne ht
    · exact absurd rfl hne
    · exact .busFaults hq (by simp [htx]) hready herr ht
    · exact absurd (State.retireOk_seq ..) hne
  · rcases offBus_cases o s with ⟨hdone, hlast, hb⟩ | ⟨-, -, hb⟩ | ⟨-, -, hb⟩ | ⟨-, -, hb⟩ <;> rw [hb] at hne ht
    · exact .finishes hq htx ⟨o, ho, hdone⟩ hlast ht
    all_goals exact absurd rfl hne
  · rcases complete_cases s with ⟨-, hc⟩ | ⟨hb, hout, hc⟩ | ⟨hb, hout, hc⟩ <;> rw [hc] at hne ht
    · exact absurd rfl hne
    · exact .pollFails hq hb hout ht
    · exact .completes hq hb hout ht
  · simp [running_of_terminal hterm] at hr

/-- The rows of a step that begins outside a run: they are the accepted command's, or the return to `Idle`. -/
theorem seqArc_outside_run (hr : s.running = false) (hstep : step s = .next t) (hne : t.seq ≠ s.seq) : SeqArc s t := by
  obtain ⟨u, -, hseq, -, -⟩ := cycle_cases hstep
  have hu := sequencerAction_outside_run hr hseq
  obtain ⟨v, hstep', hnone, hsome⟩ := step_outside_run hseq (by simp [hu])
  cases hstep'.symm.trans hstep
  have hreturns (hv : v = u)
      (c : ∀ i, acceptedCommand s = some i → isStart i = false ∧ i.legal = true ∧ isPayload i = false) :
      SeqArc s (endCycle Config.hdrLen s v) := by
    have hidle : (endCycle Config.hdrLen s v).seq = .idle := by simp [hv, hu]
    refine .returns ((idle_or_terminal hr).resolve_left fun hq => ?_) c hidle
    exact hne (hidle.trans hq.symm)
  cases hcmd : acceptedCommand s with
  | none => exact hreturns (hnone (acceptedCommand_eq_none.1 hcmd)) (by simp [hcmd])
  | some i =>
    obtain ⟨hopens, hfails, hkeeps⟩ := hsome i hcmd
    by_cases hstart : isStart i = true
    · exact .opens hr ⟨i, hcmd, hstart⟩ (by simpa using hopens hstart)
    by_cases hlegal : i.legal = false
    · exact .illegal (canAccept_of_acceptedCommand hcmd) ⟨i, hcmd, hlegal⟩ (by simpa using hfails (.inl hlegal))
    by_cases hpay : isPayload i = true
    · exact .strayPayload hr ⟨i, hcmd, hpay⟩ (by simpa using hfails (.inr hpay))
    · refine hreturns (hkeeps hstart (by simp [hlegal, hpay])) fun j hj => ?_
      cases hcmd.symm.trans hj
      simp_all

/-- The rows of a step that begins in a run: the check's, those of a command that ends the run, or the Sequencer's own. -/
theorem seqArc_in_run (hr : s.running = true) (hinv : insufficient Config.hdrLen s = false)
    (hstep : step s = .next t) (hne : t.seq ≠ s.seq) : SeqArc s t := by
  obtain ⟨u, v, hseq, hcmd, rfl⟩ := cycle_cases hstep
  rcases checkSufficient_cases Config.hdrLen v with ⟨hi, hfail⟩ | ⟨-, hpass⟩
  · obtain ⟨hq, hshort⟩ := short_of_insufficient hr hinv hseq hcmd hi
    exact .tooShort hq hshort (by simp [hfail]) (by simp [hfail])
  rw [hpass] at hne ⊢
  have hown (hv : v.seq = u.seq) : SeqArc s (endCycle Config.hdrLen s v) :=
    seqArc_of_sequencerAction hr hseq (by simpa [hv] using hne) (by simpa using hv)
  rcases hcmd with ⟨-, rfl⟩ | ⟨w, hw, hexec⟩
  · exact hown rfl
  have hacc := ((accepted_iff s w).1 hw).1
  have hcmd := acceptedCommand_of_accepted hw
  have hu := (sequencerAction_running hacc hseq).trans hr
  rcases exec_in_run hu hexec with ⟨c, d, -, rfl⟩ | ⟨c, d, -, -, rfl⟩ | ⟨c, d, -, -, rfl⟩ | ⟨hstart, rfl⟩ |
    ⟨hill, cause, rfl⟩
  · exact hown rfl
  · exact hown rfl
  · exact hown rfl
  · exact .restarts (open_of_canAccept hr hacc).1 ⟨_, hcmd, hstart⟩ rfl
  · exact .illegal hacc ⟨_, hcmd, hill⟩ rfl

/-! ### The entries to `PollFailed` and `Completed` (R157) -/

/-- A step that begins outside a run ends in `Idle`, in `AwaitingAddress` or in `Errored`. -/
theorem seq_after_outside_run (hr : s.running = false) (hstep : step s = .next t) :
    t.seq ≠ .pollFailed ∧ t.seq ≠ .completed := by
  obtain ⟨u, -, hseq, -, -⟩ := cycle_cases hstep
  have hu := sequencerAction_outside_run hr hseq
  obtain ⟨v, hstep', hnone, hsome⟩ := step_outside_run hseq (by simp [hu])
  cases hstep'.symm.trans hstep
  rw [endCycle_seq]
  cases hcmd : acceptedCommand s with
  | none => simp [hnone (acceptedCommand_eq_none.1 hcmd), hu]
  | some i =>
    obtain ⟨hopens, hfails, hkeeps⟩ := hsome i hcmd
    by_cases hstart : isStart i = true
    · simp [hopens hstart]
    by_cases hbad : i.legal = false ∨ isPayload i = true
    · simp [hfails hbad]
    · simp [hkeeps hstart hbad, hu]

/-- A terminal state of `Completing` is entered from a run. -/
theorem seqArc_of_completion (hinv : insufficient Config.hdrLen s = false) (hstep : step s = .next t)
    (ht : t.seq = .pollFailed ∨ t.seq = .completed) : SeqArc s t := by
  cases hr : s.running with
  | false =>
    obtain ⟨hpf, hc⟩ := seq_after_outside_run hr hstep
    exact (ht.elim hpf hc).elim
  | true =>
    refine seqArc_in_run hr hinv hstep fun he => ?_
    rw [State.running, ← he] at hr
    rcases ht with ht | ht <;> simp [ht] at hr

theorem enters_pollFailed (hinv : insufficient Config.hdrLen s = false) (hstep : step s = .next t)
    (ht : t.seq = .pollFailed) : s.seq = .completing ∧ s.rbuf = [] ∧ s.outcome = .pollFail := by
  cases seqArc_of_completion hinv hstep (.inl ht)
  case pollFails hq hb ho _ => exact ⟨hq, hb, ho⟩
  all_goals simp_all

theorem enters_completed (hinv : insufficient Config.hdrLen s = false) (hstep : step s = .next t)
    (ht : t.seq = .completed) : s.seq = .completing ∧ s.rbuf = [] ∧ s.outcome = .ok := by
  cases seqArc_of_completion hinv hstep (.inr ht)
  case completes hq hb ho _ => exact ⟨hq, hb, ho⟩
  all_goals simp_all

end Sys2Proof.Machine
end

section
/-! SUPPORT. What the invariant says of the operation a run of the machine works on, whose records are those of `HL_DEFAULT`
(R191). -/

namespace Sys2Proof

open Machine

variable {s t : State} {o : Operation}

/-- The record of a machine's run is that of one of the four operations. -/
theorem OperationInv.record_cases (h : OperationInv (hlDefault s.params.pollBudget) o s) :
    ∃ a, o = rdOperation a ∨ o = wzOperation a ∨ o = pollOperation a s.params.pollBudget ∨ o = wrOperation a := by
  obtain ⟨-, ho⟩ := h.decoded
  rw [ho]
  exact decodeHeaderDefault_cases s.params.pollBudget s.hdr

theorem OperationInv.poll_budget (h : OperationInv (hlDefault s.params.pollBudget) o s) (hk : o.kind = .poll) :
    o.budget = s.params.pollBudget := by
  obtain ⟨a, rfl | rfl | rfl | rfl⟩ := h.record_cases
  case inr.inr.inl => rfl
  all_goals cases hk

/-- A recorded operation is one a run works on. -/
theorem MachineInv.operation (h : MachineInv s) (ho : s.op = some o) :
    OperationInv (hlDefault s.params.pollBudget) o s := by
  have hno (hnone : s.op = none) : OperationInv (hlDefault s.params.pollBudget) o s := by simp [hnone] at ho
  have hwork (hq : s.seq = .executing ∨ s.seq = .completing) : OperationInv (hlDefault s.params.pollBudget) o s := by
    obtain ⟨o', ho', hop⟩ := h.working hq
    cases ho.symm.trans ho'
    exact hop
  cases hr : s.running with
  | false => exact hno (congrArg State.op (h.clearedOutsideRun hr)).symm
  | true =>
    rcases running_cases hr with hq | hq | hq
    exacts [hno (h.awaiting hq).1, hwork (.inl hq), hwork (.inr hq)]

end Sys2Proof
end

section
/-! PROOFS. The obligations on the transitions of the Sequencer and on how a run ends. -/

namespace Sys2Proof.Transitions

open Sys2Proof.Machine

/-- Settles O6: in a run that goes on the Sequencer keeps the three fields (`sequencerAction_in_run`), and outside a run it
writes `seq` only. -/
theorem acceptedCommandSeesStartOfCycle : Obligations.AcceptedCommandSeesStartOfCycle := by
  intro s t hacc hseq
  have hrun := sequencerAction_running hacc hseq
  refine ⟨hrun, ?_⟩
  cases hr : s.running with
  | false =>
    rw [sequencerAction_outside_run hr hseq]
    exact ⟨rfl, rfl, rfl⟩
  | true =>
    obtain ⟨ha, hl, hres, -⟩ := sequencerAction_in_run hseq (hrun.trans hr)
    exact ⟨ha, hres, hl⟩

/-- Settles O32: outside a run the accepted command decides the row (`seqArc_outside_run`); in a run the sufficiency check
does, then a command that ends the run, then the Sequencer's own action (`seqArc_in_run`). -/
theorem seqChangesOnlyAlongTheTable : Obligations.SeqChangesOnlyAlongTheTable := by
  intro s t hinv hstep hne
  cases hr : s.running with
  | false => exact seqArc_outside_run hr hstep hne
  | true => exact seqArc_in_run hr hinv.sufficient hstep hne

/-- Settles O46: `PollFailed` is entered from `Completing` with the outcome `PollFail`, which the invariant ties to the
budget; and the invariant of the next state bounds its attempts. -/
theorem pollFailsAfterExactlyItsBudget : Obligations.PollFailsAfterExactlyItsBudget := by
  refine ⟨fun s t hinv hstep ht => ?_, fun s t o hinv hstep ho hk => ?_⟩
  · obtain ⟨hq, hb, hout⟩ := enters_pollFailed hinv.sufficient hstep ht
    obtain ⟨o, ho, hop⟩ := hinv.working (.inr hq)
    have hk : o.kind = .poll := by
      by_contra hk
      simp [(hop.ofOther hk).2.2] at hout
    obtain ⟨hmet, hattempts⟩ := (hop.pollOutcome hk).1 hout
    obtain ⟨-, -, t', hstep', -, hfail, -⟩ := TransactionSequencer.completingEndsRun s hinv hq
    cases hstep'.symm.trans hstep
    exact ⟨o, ho, hk, hattempts, hop.poll_budget hk, hmet, (hfail hb hout).2.1⟩
  · have hop := (Invariant.stepKeepsInvariant s t hinv hstep).operation ho
    exact hop.poll_budget hk ▸ hop.attemptsBounded

/-- Settles O47: `Completed` is entered from `Completing` with the outcome `Ok` and the results drained; the invariant says
the operation is done there. -/
theorem completedMeansAllDone : Obligations.CompletedMeansAllDone := by
  intro s t hinv hstep ht
  obtain ⟨hq, hb, hout⟩ := enters_completed hinv.sufficient hstep ht
  obtain ⟨o, ho, hop⟩ := hinv.working (.inr hq)
  have hdone := hop.finished hq
  refine ⟨hinv.completingLast hq, hb, txn_none_of_machineInv hinv (by simp [hq]), o, ho,
    fun hk => (opDone_other_iff hk).1 hdone, fun hk => ?_⟩
  have hnotFailed : ¬ (s.pollMet = false ∧ s.attempts = o.budget) := fun h => by
    simp [(hop.pollOutcome hk).2 h] at hout
  rcases (opDone_poll_iff hk).1 hdone with hmet | hattempts
  · exact hmet
  · by_contra hmet
    exact hnotFailed ⟨by simpa using hmet, hattempts⟩

end Sys2Proof.Transitions
end

section
/-! SUPPORT. A run that has all its payload: no group waits for bytes (R132), and every cycle in which the target answers
brings the run nearer to its end (R303). -/

namespace Sys2Proof.Machine

variable {s u : State} {o : Operation}

/-! ### Payload enough (R132, R192) -/

/-- A run that goes on after `data-last` holds the header's bytes, and those its operation requires. -/
theorem required_le_of_sufficient {n : Nat} (h : insufficient n s = false) (hr : s.running = true)
    (hlast : s.lastSeen = true) : n ≤ s.acc ∧ ∀ o, s.op = some o → required n o ≤ s.acc := by
  have hnot : ¬ (s.acc < n ∨ ∃ o, s.op = some o ∧ s.acc < required n o) := fun hshort => by
    simp [(insufficient_iff n s).2 ⟨hr, hlast, hshort⟩] at h
  refine ⟨Nat.not_lt.1 fun hlt => hnot (.inl hlt), fun o ho => Nat.not_lt.1 fun hlt => hnot (.inr ⟨o, ho, hlt⟩)⟩

/-- After `data-last` a header that is not complete finds bytes in the queue. -/
theorem queue_of_short_header (hinv : MachineInv s) (hlast : s.lastSeen = true) (hq : s.seq = .awaitingAddress)
    (hlen : s.hdr.length < 4) : s.q ≠ [] := by
  have hacc := (required_le_of_sufficient hinv.sufficient (by simp [State.running, hq]) hlast).1
  have hfour : (hlDefault s.params.pollBudget).hdrLen = 4 := rfl
  obtain ⟨hop, hopnd, -⟩ := hinv.awaiting hq
  have hbytes : s.acc = s.hdr.length + s.q.length + s.opnd.length + usedBytes s := hinv.bytesConserved
  rw [usedBytes_of_no_op hop, hopnd, List.length_nil] at hbytes
  exact List.ne_nil_of_length_pos (by omega)

/-- A group of an operation with work left is part of what the operation requires, beyond what is used. -/
theorem used_and_group_le_required (hop : OperationInv (hlDefault s.params.pollBudget) o s)
    (hdone : opDone o s = false) : 4 + s.transDone * o.opndLen + o.opndLen ≤ required 4 o := by
  have htrans := hop.transBounded
  obtain ⟨a, rfl | rfl | rfl | rfl⟩ := hop.record_cases
  · simp [required, rdOperation]
  · simp [required, wzOperation]
  · simp [required, pollOperation, (hop.ofPoll rfl).1]
  · have hleft := (not_opDone_other_iff (by simp [wrOperation])).1 hdone
    simp only [required, wrOperation] at htrans hleft ⊢
    omega

/-- After `data-last` an operand group that is not complete, with work left, finds bytes in the queue. -/
theorem queue_of_short_group (hinv : MachineInv s) (hlast : s.lastSeen = true) (hq : s.seq = .executing)
    (ho : s.op = some o) (hdone : opDone o s = false) (hlen : s.opnd.length < opNeed o) : s.q ≠ [] := by
  have hop := hinv.operation ho
  have hacc := (required_le_of_sufficient hinv.sufficient (by simp [State.running, hq]) hlast).2 o ho
  have hreq := used_and_group_le_required hop hdone
  have hhdr : s.hdr.length = 4 := hop.decoded.1
  have hbytes : s.acc = s.hdr.length + s.q.length + s.opnd.length + usedBytes s := hinv.bytesConserved
  rw [usedBytes_of_op ho] at hbytes
  have hneed : opNeed o = o.opndLen := rfl
  have hfour : (hlDefault s.params.pollBudget).hdrLen = 4 := rfl
  rw [hfour] at hacc
  exact List.ne_nil_of_length_pos (by omega)

/-! ### The work left -/

/-- Transactions, or poll attempts, still to make. -/
def roundsLeft (o : Operation) (s : State) : Nat :=
  match o.kind with
  | .poll => o.budget - s.attempts
  | .read => o.ntrans - s.transDone
  | .write => o.ntrans - s.transDone

/-- Work before the next issue: two for each byte the group can still take, one for a cooldown, one for the issue. A
transaction on the bus needs the target's answer only. -/
def issueWork (s : State) : Nat :=
  match s.txn with
  | some _ => 0
  | none => 2 * (8 - s.opnd.length) + s.cool.toNat + 1

/-- Work in `Completing`: two for each result byte, one for a cooldown. -/
def drainWork (s : State) : Nat := 2 * s.rbuf.length + s.rcool.toNat

/-- The work left in a run of the machine: what is left of the header, the rounds of its operation at 20 each, the way to the
next issue, and 10 for `Completing`. -/
def workLeft (s : State) : Nat :=
  match s.seq with
  | .awaitingAddress => 2 * (4 - s.hdr.length) + s.cool.toNat + (20 * s.params.pollBudget + 30)
  | .executing =>
    match s.op with
    | some o => 10 + 20 * roundsLeft o s + issueWork s
    | none => 0
  | .completing => drainWork s
  | .idle => 0
  | .completed => 0
  | .pollFailed => 0
  | .errored => 0

theorem workLeft_awaiting (hq : s.seq = .awaitingAddress) :
    workLeft s = 2 * (4 - s.hdr.length) + s.cool.toNat + (20 * s.params.pollBudget + 30) := by
  simp [workLeft, hq]

theorem workLeft_executing (hq : s.seq = .executing) (ho : s.op = some o) :
    workLeft s = 10 + 20 * roundsLeft o s + issueWork s := by
  simp [workLeft, hq, ho]

theorem workLeft_completing (hq : s.seq = .completing) : workLeft s = drainWork s := by
  simp [workLeft, hq]

theorem issueWork_of_idle_bus (htx : s.txn = none) :
    issueWork s = 2 * (8 - s.opnd.length) + s.cool.toNat + 1 := by
  simp [issueWork, htx]

theorem issueWork_of_txn {tx : Txn} (htx : s.txn = some tx) : issueWork s = 0 := by
  simp [issueWork, htx]

theorem issueWork_le (s : State) : issueWork s ≤ 18 := by
  have := s.cool.toNat_le
  unfold issueWork
  split <;> omega

@[simp] theorem roundsLeft_endCycle (o : Operation) (n : Nat) (s t : State) :
    roundsLeft o (endCycle n s t) = roundsLeft o t := by
  simp [roundsLeft]

/-- Retirement makes one round of those that were left (R165). -/
theorem roundsLeft_retireOk (hop : OperationInv (hlDefault s.params.pollBudget) o s) (hdone : opDone o s = false)
    (v : Word) : roundsLeft o (s.retireOk o v) + 1 = roundsLeft o s := by
  have htrans := hop.transBounded
  have hattempts := hop.attemptsBounded
  rcases retireOk_cases o v s with ⟨hk, hr⟩ | ⟨hk, hr⟩ | ⟨hk, hr⟩ <;> simp only [hr, roundsLeft, hk]
  · have hleft := (not_opDone_other_iff (by simp [hk])).1 hdone
    simp only [State.retireRead_transDone]
    omega
  · have hleft := (not_opDone_other_iff (by simp [hk])).1 hdone
    simp only [State.retireWrite_transDone]
    omega
  · obtain ⟨-, hleft⟩ := (not_opDone_poll_iff hk).1 hdone
    simp only [State.retirePoll_attempts]
    omega

/-! ### Pulses make progress (R130, R160) -/

/-- A group short of bytes, with bytes in the queue, gets one or gets over its cooldown. -/
theorem pulse_progress {have_ need cap : Nat} (hqueue : s.q ≠ []) (hshort : have_ < need) (hcap : need ≤ cap) :
    2 * (cap - (have_ + pulseSize s have_ need)) + (decide (0 < pulseSize s have_ need)).toNat <
      2 * (cap - have_) + s.cool.toNat := by
  obtain ⟨-, -, hroom⟩ := pulseSize_le s have_ need
  cases hcool : s.cool with
  | true => simp [pulseSize_cool hcool]
  | false =>
    have hpos := pulseSize_pos hcool hqueue hshort
    simp only [decide_eq_true hpos, Bool.toNat_true, Bool.toNat_false]
    omega

/-- A result buffer that is not empty loses bytes, or gets over its cooldown. -/
theorem drainWork_endCycle_lt (n : Nat) (hb : s.rbuf ≠ []) : drainWork (endCycle n s s) < drainWork s := by
  have hpos := List.length_pos_iff.2 hb
  cases hcool : s.rcool with
  | true => simp [drainWork, State.rvalid, hcool]
  | false =>
    have hvalid : s.rvalid = min 3 s.rbuf.length := by simp [State.rvalid, hcool, Config.maxPulse]
    have hsome : 0 < s.rvalid := by omega
    simp only [drainWork, endCycle_rbuf, endCycle_rcool, decide_eq_true hsome, hcool, List.length_drop,
      Bool.toNat_true, Bool.toNat_false]
    omega

/-! ### The records' sizes (R191) -/

theorem results_le_four (hop : OperationInv (hlDefault s.params.pollBudget) o s) : s.rbuf.length ≤ 4 := by
  have htrans := hop.transBounded
  have hresults := hop.resultsBounded
  obtain ⟨a, rfl | rfl | rfl | rfl⟩ := hop.record_cases <;>
    simp only [rdOperation, wzOperation, pollOperation, wrOperation] at htrans hresults <;> omega

theorem group_le_eight (hop : OperationInv (hlDefault s.params.pollBudget) o s) : opNeed o ≤ 8 := by
  obtain ⟨a, rfl | rfl | rfl | rfl⟩ := hop.record_cases <;>
    simp [opNeed, rdOperation, wzOperation, pollOperation, wrOperation]

theorem roundsLeft_decoded_le (s : State) (hbudget : 1 ≤ s.params.pollBudget) (l : List Byte) (t : State) :
    roundsLeft (decodeHeaderDefault s.params.pollBudget l) t ≤ s.params.pollBudget := by
  obtain ⟨a, h | h | h | h⟩ := decodeHeaderDefault_cases s.params.pollBudget l <;> rw [h] <;>
    simp only [roundsLeft, rdOperation, wzOperation, pollOperation, wrOperation] <;> omega

/-! ### Every cycle makes progress -/

theorem work_decode_lt (hinv : MachineInv s) (hq : s.seq = .awaitingAddress) :
    workLeft (endCycle Config.hdrLen s (s.enterExecuting (decodeHeaderDefault s.params.pollBudget s.hdr))) <
      workLeft s := by
  have hrounds := roundsLeft_decoded_le s hinv.params.2 s.hdr
    (s.enterExecuting (decodeHeaderDefault s.params.pollBudget s.hdr))
  have hissue := issueWork_le
    (endCycle Config.hdrLen s (s.enterExecuting (decodeHeaderDefault s.params.pollBudget s.hdr)))
  rw [workLeft_executing (by simp) (by rw [endCycle_op, State.enterExecuting_op]), roundsLeft_endCycle,
    workLeft_awaiting hq]
  omega

theorem work_popHdr_lt (hinv : MachineInv s) (hlast : s.lastSeen = true) (hq : s.seq = .awaitingAddress)
    (hlen : s.hdr.length ≠ Config.hdrLen) :
    workLeft (endCycle Config.hdrLen s (s.popHdr (pulseSize s s.hdr.length Config.hdrLen))) < workLeft s := by
  have hshort : s.hdr.length < 4 := lt_of_le_of_ne hinv.hdrBounded hlen
  have hprogress := pulse_progress (need := Config.hdrLen) (cap := 4) (queue_of_short_header hinv hlast hq hshort)
    hshort le_rfl
  have hconsumed : consumedOf Config.hdrLen s = pulseSize s s.hdr.length Config.hdrLen :=
    (consumed_awaiting hq).trans (if_neg hlen)
  have hfit := (pulseSize_le s s.hdr.length Config.hdrLen).2.1
  rw [workLeft_awaiting (by simpa using hq), workLeft_awaiting hq]
  simp only [endCycle_hdr, endCycle_cool, endCycle_params, State.popHdr_hdr, State.popHdr_params, hconsumed,
    List.length_append, List.length_take, Nat.min_eq_left hfit]
  omega

theorem work_retire_lt {tx : Txn} (hinv : MachineInv s) (hq : s.seq = .executing) (ho : s.op = some o)
    (htx : s.txn = some tx) (v : Word) :
    workLeft (endCycle Config.hdrLen s (s.retireOk o v)) < workLeft s := by
  have hop := hinv.operation ho
  have hrounds := roundsLeft_retireOk hop (hop.outstanding tx htx).2.1 v
  have hissue := issueWork_le (endCycle Config.hdrLen s (s.retireOk o v))
  rw [workLeft_executing (o := o) (by simpa using hq) (by simpa using ho), roundsLeft_endCycle,
    workLeft_executing hq ho, issueWork_of_txn htx]
  omega

theorem work_offBus_lt (hinv : MachineInv s) (hlast : s.lastSeen = true) (hq : s.seq = .executing)
    (ho : s.op = some o) (htx : s.txn = none) :
    workLeft (endCycle Config.hdrLen s (s.offBus o)) < workLeft s := by
  have hop := hinv.operation ho
  have hconsumed := consumed_offBus hq htx ho
  rw [workLeft_executing hq ho, issueWork_of_idle_bus htx]
  rcases offBus_cases o s with ⟨-, -, hb⟩ | ⟨-, hnot, -⟩ | ⟨hdone, hlen, hb⟩ | ⟨-, -, hb⟩
  · have hfour := results_le_four hop
    have hcool := (decide (0 < s.rvalid)).toNat_le
    rw [hb, workLeft_completing (by simp)]
    simp only [drainWork, endCycle_rbuf, endCycle_rcool, List.length_drop]
    omega
  · simp [hlast] at hnot
  · have hprogress := pulse_progress (queue_of_short_group hinv hlast hq ho hdone hlen) hlen (group_le_eight hop)
    have hpulse : consumedOf Config.hdrLen s = pulseSize s s.opnd.length (opNeed o) :=
      hconsumed.trans (by simp [hdone, hlen])
    have hfit := (pulseSize_le s s.opnd.length (opNeed o)).2.1
    have hrounds : roundsLeft o (s.popOpnd (pulseSize s s.opnd.length (opNeed o))) = roundsLeft o s := rfl
    rw [hb, workLeft_executing (o := o) (by simpa using hq) (by simpa using ho), roundsLeft_endCycle, hrounds,
      issueWork_of_idle_bus (by simpa using htx)]
    simp only [endCycle_opnd, endCycle_cool, State.popOpnd_opnd, hpulse, List.length_append, List.length_take,
      Nat.min_eq_left hfit]
    omega
  · have hrounds : roundsLeft o (s.issue o) = roundsLeft o s := rfl
    rw [hb, workLeft_executing (o := o) (by simpa using hq) (by simpa using ho), roundsLeft_endCycle, hrounds,
      issueWork_of_txn (tx := issuedTxn o s) (by simp)]
    omega

/-- A cycle that keeps the run open, after `data-last` and with the target answering, lowers the work left. -/
theorem work_sequencerAction_lt (hinv : MachineInv s) (hr : s.running = true) (hlast : s.lastSeen = true)
    (hready : s.txn ≠ none → s.busIn.ready = true) (hseq : sequencerAction s = .next u) (hu : u.running = true) :
    workLeft (endCycle Config.hdrLen s u) < workLeft s := by
  rcases sequencerAction_cases hseq with ⟨hq, -⟩ | ⟨hq, -, rfl⟩ | ⟨hq, hlen, rfl⟩ | ⟨hq, o, tx, ho, htx, rfl⟩ |
    ⟨hq, o, ho, htx, rfl⟩ | ⟨hq, rfl⟩ | ⟨hterm, -⟩
  · simp [State.running, hq] at hr
  · exact work_decode_lt hinv hq
  · exact work_popHdr_lt hinv hlast hq hlen
  · rcases onBus_cases o s.busIn s with ⟨hwait, -⟩ | ⟨-, -, hb⟩ | ⟨-, -, hb⟩
    · simp [hready (by simp [htx])] at hwait
    · simp [hb] at hu
    · rw [hb]
      exact work_retire_lt hinv hq ho htx _
  · exact work_offBus_lt hinv hlast hq ho htx
  · rcases complete_cases s with ⟨hb, hc⟩ | ⟨-, -, hc⟩ | ⟨-, -, hc⟩
    · rw [hc, workLeft_completing (by simpa using hq), workLeft_completing hq]
      exact drainWork_endCycle_lt _ hb
    · simp [hc] at hu
    · simp [hc] at hu
  · simp [running_of_terminal hterm] at hr

/-- A step that closes a run ends in a terminal state (R17). -/
theorem runEnded_of_closed {t : State} (hinv : MachineInv s) (hr : s.running = true) (hstep : step s = .next t)
    (ht : t.running = false) : RunEnded t := by
  refine (idle_or_terminal ht).resolve_left fun hidle => ?_
  have hne : t.seq ≠ s.seq := fun he => by simp [State.running, ← he, hidle] at hr
  cases seqArc_in_run hr hinv.sufficient hstep hne
  case returns hterm _ _ => simp [running_of_terminal hterm] at hr
  all_goals simp_all

end Sys2Proof.Machine
end

section
/-! PROOFS. The obligations on a run that has all its payload. -/

namespace Sys2Proof.Progress

open Sys2Proof.Machine

/-- Settles O42: the bytes required and not used are in the group or in the queue. -/
theorem noGroupStarvesAfterDataLast : Obligations.NoGroupStarvesAfterDataLast :=
  fun _ hinv hlast =>
    ⟨queue_of_short_header hinv hlast, fun _ hq ho hdone hlen => queue_of_short_group hinv hlast hq ho hdone hlen⟩

/-- Settles O37, with `workLeft` as the count: no command is accepted after `data-last`, so a step that keeps the run open is
the Sequencer's action, which lowers it (`work_sequencerAction_lt`). -/
theorem runEndsOnceTargetAnswers : Obligations.RunEndsOnceTargetAnswers := by
  refine ⟨workLeft, fun s t hinv hr hlast hready hstep => ?_⟩
  cases ht : t.running with
  | false => exact .inl (runEnded_of_closed hinv hr hstep ht)
  | true =>
    right
    obtain ⟨u, v, hseq, hcmd, rfl⟩ := cycle_cases hstep
    rw [endCycle_running] at ht
    have hpass := checkSufficient_of_running ht
    rw [hpass] at ht ⊢
    rcases hcmd with ⟨-, rfl⟩ | ⟨w, hw, -⟩
    · have hkeeps := (sequencerAction_in_run hseq ht).2.1
      rw [endCycle_lastSeen]
      exact ⟨rfl, hkeeps.trans hlast, work_sequencerAction_lt hinv hr hlast hready hseq ht⟩
    · simp [accepted_none_after_dataLast hr hlast] at hw

end Sys2Proof.Progress
end

section
/-! SUPPORT. What a cycle does not read: two states that agree but for the residual state, the fetch state and the inputs
make the same step but for those, as long as the command accepted and the answer awaited on the bus are the same (R38,
R213). -/

namespace Sys2Proof.Machine

/-- `s` with another residual state, fetch state and schedule of inputs. -/
def State.swap (r : Option Cause) (f : FetchState) (i : List Inputs) (s : State) : State :=
  { s with resid := r, fstate := f, inputs := i }

/-- `resid` of a swapped state, `r` before an action and `r'` after it, follows the action that makes `u` of `s`: it is kept
where the action keeps it, or it is what the action writes. -/
def ResidFollows (s u : State) (r r' : Option Cause) : Prop := r' = r ∧ u.resid = s.resid ∨ r' = u.resid

/-- `x` is what the action that makes `u` of `s` makes of `s` swapped. -/
def Mirrors (r : Option Cause) (f : FetchState) (i : List Inputs) (s u x : State) : Prop :=
  ∃ r', x = u.swap r' f i ∧ ResidFollows s u r r'

variable {r r' r'' : Option Cause} {f : FetchState} {i : List Inputs} {s t u v x : State}

theorem ResidFollows.trans (h : ResidFollows s u r r') (h' : ResidFollows u v r' r'') : ResidFollows s v r r'' := by
  rcases h' with ⟨rfl, hkeep⟩ | hwrite
  · rcases h with ⟨rfl, hkeep'⟩ | hwrite
    exacts [.inl ⟨rfl, hkeep.trans hkeep'⟩, .inr (hwrite.trans hkeep.symm)]
  · exact .inr hwrite

theorem ResidFollows.resid_eq (h : ResidFollows s u s.resid r') : r' = u.resid := by
  rcases h with ⟨rfl, hkeep⟩ | hwrite
  exacts [hkeep.symm, hwrite]

/-- An action that does not look at the swapped fields and keeps `resid`. -/
theorem Mirrors.of_keep (hx : x = u.swap r f i) (hres : u.resid = s.resid) : Mirrors r f i s u x :=
  ⟨r, hx, .inl ⟨rfl, hres⟩⟩

/-- An action that writes `resid`. -/
theorem Mirrors.of_write (hx : x = u.swap u.resid f i) : Mirrors r f i s u x := ⟨u.resid, hx, .inr rfl⟩

/-! ### The Sequencer's own action -/

theorem retireOk_swap (o : Operation) (w : Word) : (s.swap r f i).retireOk o w = (s.retireOk o w).swap r f i := by
  unfold State.retireOk
  cases o.kind <;> rfl

theorem onBus_swap (o : Operation) (b : BusResp) : Mirrors r f i s (s.onBus o b) ((s.swap r f i).onBus o b) := by
  unfold State.onBus
  cases b.ready
  · exact .of_keep rfl rfl
  · cases b.err
    · exact .of_keep (retireOk_swap o b.rdata) (State.retireOk_resid o b.rdata s)
    · exact .of_write rfl

theorem offBus_swap (o : Operation) : Mirrors r f i s (s.offBus o) ((s.swap r f i).offBus o) := by
  refine .of_keep ?_ (State.offBus_resid o s)
  have hdone : opDone o (s.swap r f i) = opDone o s := rfl
  have hlast : (s.swap r f i).lastSeen = s.lastSeen := rfl
  have hopnd : (s.swap r f i).opnd = s.opnd := rfl
  simp only [State.offBus, hdone, hlast, hopnd]
  split_ifs <;> rfl

theorem complete_swap : Mirrors r f i s s.complete (s.swap r f i).complete := by
  unfold State.complete
  have hrbuf : (s.swap r f i).rbuf = s.rbuf := rfl
  have hout : (s.swap r f i).outcome = s.outcome := rfl
  rw [hrbuf, hout]
  split_ifs
  · cases s.outcome
    · exact .of_keep rfl rfl
    · exact .of_write rfl
  · exact .of_keep rfl rfl

/-- The Sequencer's action is the same on a swapped state, if the operation gets the same answer from the bus. -/
theorem sequencerAction_swap
    (hbus : ∀ o, s.op = some o → s.txn ≠ none → s.onBus o (s.swap r f i).busIn = s.onBus o s.busIn)
    (h : sequencerAction s = .next u) : ∃ x, sequencerAction (s.swap r f i) = .next x ∧ Mirrors r f i s u x := by
  rcases sequencerAction_cases h with ⟨hq, rfl⟩ | ⟨hq, hlen, rfl⟩ | ⟨hq, hlen, rfl⟩ | ⟨hq, o, tx, ho, htx, rfl⟩ |
    ⟨hq, o, ho, htx, rfl⟩ | ⟨hq, rfl⟩ | ⟨hterm, rfl⟩
  · exact ⟨_, by simp [sequencerAction, sequencer, State.swap, hq], .of_keep rfl rfl⟩
  · exact ⟨_, sequencerAction_decode (s := s.swap r f i) hq hlen, .of_keep rfl rfl⟩
  · exact ⟨_, sequencerAction_popHdr (s := s.swap r f i) hq hlen, .of_keep rfl rfl⟩
  · refine ⟨_, sequencerAction_onBus (s := s.swap r f i) hq ho htx, ?_⟩
    rw [← hbus o ho (by simp [htx])]
    exact onBus_swap o _
  · exact ⟨_, sequencerAction_offBus (s := s.swap r f i) hq ho htx, offBus_swap o⟩
  · have hact : sequencerAction (s.swap r f i) = .next (s.swap r f i).complete := by
      simp [sequencerAction, sequencer, State.swap, hq]
    exact ⟨_, hact, complete_swap⟩
  · exact ⟨_, sequencerAction_terminal (s := s.swap r f i) hterm, .of_keep rfl rfl⟩

/-! ### The accepted command -/

theorem startCommand_swap {opened : State} (hop : Mirrors r f i u opened x) (h : startCommand opened u = .next v) :
    ∃ y, startCommand x (u.swap r f i) = .next y ∧ Mirrors r f i u v y := by
  unfold startCommand at h ⊢
  have hrun : (u.swap r f i).running = u.running := rfl
  rw [hrun]
  split_ifs at h ⊢ <;> cases h
  exacts [⟨_, rfl, .of_write rfl⟩, ⟨_, rfl, hop⟩]

theorem payloadCommand_swap {c : BitVec 3} {taken : State} (htaken : Mirrors r f i u taken x)
    (h : payloadCommand c taken u = .next v) :
    ∃ y, payloadCommand c x (u.swap r f i) = .next y ∧ Mirrors r f i u v y := by
  unfold payloadCommand at h ⊢
  have hrun : (u.swap r f i).running = u.running := rfl
  rw [hrun]
  split_ifs at h ⊢ <;> cases h
  exacts [⟨_, rfl, .of_write rfl⟩, ⟨_, rfl, htaken⟩, ⟨_, rfl, .of_write rfl⟩]

theorem exec_swap {w : CmdWord} (h : exec (decodeCmd w) u = .next v) :
    ∃ y, exec (decodeCmd w) (u.swap r f i) = .next y ∧ Mirrors r f i u v y := by
  rcases decodeCmd_cases w with hw | hw | hw | hw | hw | hw | hw | hw <;> rw [hw] at h ⊢
  case inl => cases h; exact ⟨_, rfl, .of_keep rfl rfl⟩
  case inr.inl => exact startCommand_swap (opened := u.openRun) (.of_keep rfl rfl) h
  case inr.inr.inl => exact startCommand_swap (opened := { u.openRun with resid := none }) (.of_write rfl) h
  case inr.inr.inr.inl => exact payloadCommand_swap (taken := u.append _ _) (.of_keep rfl rfl) h
  case inr.inr.inr.inr.inl =>
    exact payloadCommand_swap (taken := { u.append _ _ with lastSeen := true }) (.of_keep rfl rfl) h
  all_goals cases h; exact ⟨_, rfl, .of_write rfl⟩

/-! ### The step -/

theorem checkSufficient_swap (n : Nat) :
    Mirrors r f i s (s.checkSufficient n) ((s.swap r f i).checkSufficient n) := by
  unfold State.checkSufficient
  have hshort : insufficient n (s.swap r f i) = insufficient n s := rfl
  rw [hshort]
  split_ifs
  exacts [.of_write rfl, .of_keep rfl rfl]

theorem endCycle_swap (n : Nat) :
    endCycle n (s.swap r f i) (v.swap r' f i) =
      { endCycle n s v with
        resid := r', ip := (s.swap r f i).nextIp, fstate := (s.swap r f i).nextFetch, inputs := i.tail } := by
  have hconsumed : consumedOf n (s.swap r f i) = consumedOf n s := rfl
  have hvalid : (s.swap r f i).rvalid = s.rvalid := rfl
  rw [endCycle, hconsumed, hvalid]
  rfl

theorem commandActs_swap (hacc : (s.swap r f i).accepted = s.accepted) (hcmd : CommandActs s u v) :
    ∃ y, CommandActs (s.swap r f i) (u.swap r' f i) y ∧ Mirrors r' f i u v y := by
  rcases hcmd with ⟨hnone, rfl⟩ | ⟨w, hw, hexec⟩
  · exact ⟨_, .inl ⟨hacc.trans hnone, rfl⟩, .of_keep rfl rfl⟩
  · obtain ⟨y, hy, hvy⟩ := exec_swap hexec
    exact ⟨y, .inr ⟨w, hacc.trans hw, hy⟩, hvy⟩

/-- A step from a swapped state, which accepts the same command and gets the same answer from the bus, ends in the same
state but for the residual state and the front end's fields. -/
theorem step_swap (hbus : ∀ o, s.op = some o → s.txn ≠ none → s.onBus o (s.swap r f i).busIn = s.onBus o s.busIn)
    (hacc : (s.swap r f i).accepted = s.accepted) (h : step s = .next t) :
    ∃ r', ResidFollows s t r r' ∧ step (s.swap r f i) = .next
      { t with
        resid := r', ip := (s.swap r f i).nextIp, fstate := (s.swap r f i).nextFetch, inputs := i.tail } := by
  obtain ⟨u, v, hseq, hcmd, ht⟩ := cycle_cases h
  obtain ⟨x, hx, r₁, rfl, hres₁⟩ := sequencerAction_swap hbus hseq
  obtain ⟨y, hy, r₂, rfl, hres₂⟩ := commandActs_swap (r' := r₁) hacc hcmd
  obtain ⟨r₃, hcheck, hres₃⟩ := checkSufficient_swap (r := r₂) (f := f) (i := i) (s := v) Config.hdrLen
  have hres : ResidFollows s (v.checkSufficient Config.hdrLen) r r₃ := (hres₁.trans hres₂).trans hres₃
  refine ⟨r₃, ?_, ?_⟩
  · simpa [ResidFollows, ht] using hres
  · rw [step_eq_of_parts hx hy, hcheck, endCycle_swap, ht]

/-- The case in which the residual state is not swapped. -/
theorem step_swap_frontEnd (hbus : ∀ o, s.op = some o → s.txn ≠ none →
      s.onBus o (s.swap s.resid f i).busIn = s.onBus o s.busIn)
    (hacc : (s.swap s.resid f i).accepted = s.accepted) (h : step s = .next t) :
    step (s.swap s.resid f i) = .next
      { t with ip := (s.swap s.resid f i).nextIp, fstate := (s.swap s.resid f i).nextFetch, inputs := i.tail } := by
  obtain ⟨r', hres, hstep⟩ := step_swap hbus hacc h
  rw [hstep, hres.resid_eq]

/-- What a step writes of the fields that are not the run's (R39, R161, R9). -/
theorem step_frame (h : step s = .next t) :
    t.params = s.params ∧ t.frontEnd = s.frontEnd ∧ t.store = s.store ∧ t.inputs = s.inputs.tail ∧ t.now = s.now + 1 ∧
      t.ip = s.nextIp ∧ t.fstate = s.nextFetch := by
  rw [step_eq_cycleOf] at h
  simpa [State.frame] using cycleOf_frame h

/-- Another schedule of inputs, whose head gives the same command and the same answer where it is awaited and whose tail is
the same, makes the same step. -/
theorem step_inputs_congr (htail : i.tail = s.inputs.tail)
    (hbus : ∀ o, s.op = some o → s.txn ≠ none →
      s.onBus o (State.busIn { s with inputs := i }) = s.onBus o s.busIn)
    (hacc : State.accepted { s with inputs := i } = s.accepted) : step { s with inputs := i } = step s := by
  by_cases hstop : s.seq = .executing ∧ s.op = none
  · rw [step_of_no_operation hstop.1 hstop.2, step_of_no_operation (s := { s with inputs := i }) hstop.1 hstop.2]
  · obtain ⟨t, ht⟩ := step_total (not_and_or.1 hstop)
    obtain ⟨-, -, -, hinputs, -, hip, hfetch⟩ := step_frame ht
    have hstep := step_swap_frontEnd (f := s.fstate) (i := i) hbus hacc ht
    have hnextIp : (s.swap s.resid s.fstate i).nextIp = t.ip := hip.symm
    have hnextFetch : (s.swap s.resid s.fstate i).nextFetch = t.fstate := hfetch.symm
    rw [hnextIp, hnextFetch, htail, ← hinputs] at hstep
    exact hstep.trans ht.symm

/-- Two inputs with the same request present the same command. -/
theorem accepted_same_request (b b' : BusResp) (req : Request) (rest : List Inputs) :
    State.accepted { s with inputs := { bus := b', req := req } :: rest } =
      State.accepted { s with inputs := { bus := b, req := req } :: rest } := rfl

theorem onBus_not_ready (o : Operation) {b : BusResp} (h : b.ready = false) : s.onBus o b = s := by
  simp [State.onBus, h]

/-- The retirement of a write does not look at the read data (R165). -/
theorem onBus_write {o : Operation} (hk : o.kind = .write) (w w' : Word) (ready err : Bool) :
    s.onBus o { rdata := w, ready := ready, err := err } = s.onBus o { rdata := w', ready := ready, err := err } := by
  simp [State.onBus, State.retireOk, hk]

/-! ### Commands not presented (R94, R120) -/

theorem accepted_of_not_valid (b : BusResp) (p p' : CmdWord) (rest : List Inputs) :
    State.accepted { s with inputs := { bus := b, req := { valid := false, payload := p' } } :: rest } =
      State.accepted { s with inputs := { bus := b, req := { valid := false, payload := p } } :: rest } := by
  unfold State.accepted State.presented
  cases s.frontEnd <;> rfl

theorem accepted_eq_of_not_canAccept (hs : s.canAccept = false) (ht : t.canAccept = false) :
    t.accepted = s.accepted :=
  (accepted_none_of_not_canAccept ht).trans (accepted_none_of_not_canAccept hs).symm

/-- In a cycle that accepts nothing a held word is kept (R243), and the front end's registers are otherwise as with no word
held (R241). -/
theorem nextFetch_not_accepting (hauto : s.frontEnd = .autonomous) (hacc : s.canAccept = false) :
    (∀ w, s.fstate = .held w → s.nextFetch = .held w ∧ s.nextIp = s.ip) ∧
    (s.fstate = .noFetch → s.nextFetch = .noFetch ∧ s.nextIp = s.ip) := by
  simp +contextual [State.nextFetch, State.nextIp, hauto, hacc]

/-! ### The residual state (R38) -/

/-- A command that does not fail and is no `STARTCLR` keeps `resid`. -/
theorem exec_keeps_resid {w : CmdWord} (h : exec (decodeCmd w) u = .next v) (hv : v.seq ≠ .errored)
    (hclr : ∀ c d, decodeCmd w ≠ .startclr c d) : v.resid = u.resid := by
  rcases command_cases w u with ⟨c, d, -, he⟩ | ⟨c, d, -, -, he⟩ | ⟨c, d, hdec, -, he⟩ | ⟨c, d, -, -, -, he⟩ |
    ⟨c, d, -, -, -, he⟩ | ⟨cause, -, he⟩ <;> cases he.symm.trans h
  case inr.inr.inl => exact absurd hdec (hclr c d)
  case inr.inr.inr.inr.inr => exact absurd rfl hv
  all_goals rfl

/-- Without an accepted `STARTCLR`, and but for the entries to `Errored` and `PollFailed`, a step keeps `resid`. -/
theorem step_keeps_resid (h : step s = .next t) (he : t.seq ≠ .errored) (hp : t.seq ≠ .pollFailed)
    (hclr : ∀ c d, acceptedCommand s ≠ some (.startclr c d)) : t.resid = s.resid := by
  obtain ⟨u, v, hseq, hcmd, rfl⟩ := cycle_cases h
  rcases checkSufficient_cases Config.hdrLen v with ⟨-, hfail⟩ | ⟨-, hpass⟩
  · exact absurd (by simp [hfail]) he
  rw [hpass] at he hp ⊢
  rw [endCycle_seq] at he hp
  rw [endCycle_resid]
  rcases hcmd with ⟨-, rfl⟩ | ⟨w, hw, hexec⟩
  · rcases sequencerAction_raises hseq with ⟨-, hkeep⟩ | ⟨-, -, -, rfl⟩ | rfl
    exacts [hkeep, absurd rfl he, absurd rfl hp]
  · obtain ⟨-, -, hu, -⟩ := Transitions.acceptedCommandSeesStartOfCycle s u ((accepted_iff s w).1 hw).1 hseq
    refine (exec_keeps_resid hexec he fun c d hdec => hclr c d ?_).trans hu
    rw [acceptedCommand_of_accepted hw, hdec]

end Sys2Proof.Machine
end

section
/-! PROOFS. The obligations on what a step does not read. -/

namespace Sys2Proof.Noninterference

open Sys2Proof.Machine

/-- Settles O45: the bus response reaches a step through `onBus` alone, which is not run without a transaction, does nothing
without `ready`, and drops the read data of a write. -/
theorem busAnswerIgnoredUnlessAwaited : Obligations.BusAnswerIgnoredUnlessAwaited := by
  refine ⟨fun s b b' r rest htx => ?_, fun s v v' e e' r rest => ?_, fun s o v v' b e r rest ho hk => ?_⟩
  · exact step_inputs_congr (s := { s with inputs := _ :: rest }) rfl (fun o _ hbusy => absurd htx hbusy)
      (accepted_same_request b' b r rest)
  · exact step_inputs_congr (s := { s with inputs := _ :: rest }) rfl
      (fun o _ _ => (onBus_not_ready o rfl).trans (onBus_not_ready o rfl).symm) (accepted_same_request _ _ r rest)
  · refine step_inputs_congr (s := { s with inputs := _ :: rest }) rfl (fun o' ho' _ => ?_)
      (accepted_same_request _ _ r rest)
    cases ho.symm.trans ho'
    exact onBus_write hk v v' b e

/-- Settles O50: a request reaches a step through `accepted` alone; and a held word that is not accepted is swapped for none
with the step the same but for it (`step_swap_frontEnd`). -/
theorem unacceptedCommandLeavesNoTrace : Obligations.UnacceptedCommandLeavesNoTrace := by
  refine ⟨fun s b r r' rest hacc => ?_, fun s b p p' rest => ?_, fun s t w hauto hacc h => ?_⟩
  · exact step_inputs_congr (s := { s with inputs := _ :: rest }) rfl (fun _ _ _ => rfl)
      (accepted_eq_of_not_canAccept hacc hacc)
  · exact step_inputs_congr (s := { s with inputs := _ :: rest }) rfl (fun _ _ _ => rfl)
      (accepted_of_not_valid b p' p rest)
  · obtain ⟨-, -, -, hinputs, -, hip, hfetch⟩ := step_frame h
    obtain ⟨hheld, hheldIp⟩ := (nextFetch_not_accepting (s := { s with fstate := .held w }) hauto hacc).1 w rfl
    obtain ⟨hnone, hnoneIp⟩ := (nextFetch_not_accepting (s := { s with fstate := .noFetch }) hauto hacc).2 rfl
    have hstep := step_swap_frontEnd (s := { s with fstate := .held w }) (f := .noFetch) (i := s.inputs)
      (fun _ _ _ => rfl) (accepted_eq_of_not_canAccept hacc hacc) h
    refine ⟨hfetch.trans hheld, ?_⟩
    have hnextIp := hnoneIp.trans (hip.trans hheldIp).symm
    have hresult : step { s with fstate := .noFetch } = .next
        { t with
          ip := State.nextIp { s with fstate := .noFetch }
          fstate := State.nextFetch { s with fstate := .noFetch }
          inputs := s.inputs.tail } := hstep
    rwa [hnone, hnextIp, ← hinputs] at hresult

/-- Settles O57: what writes `resid` (`step_keeps_resid`); a step with another value in it (`step_swap`); and no output looks
at it. -/
theorem residualStateIsWrittenAndNotRead : Obligations.ResidualStateIsWrittenAndNotRead := by
  refine ⟨fun s t => step_keeps_resid, fun s t r h => ⟨?_, rfl, rfl, rfl, rfl⟩⟩
  obtain ⟨-, -, -, hinputs, -, hip, hfetch⟩ := step_frame h
  obtain ⟨r', hres, hstep⟩ := step_swap (r := r) (f := s.fstate) (i := s.inputs) (fun _ _ _ => rfl) rfl h
  refine ⟨r', ?_, fun hne => hres.resolve_left fun hkeep => hne hkeep.2⟩
  have hnextIp : (s.swap r s.fstate s.inputs).nextIp = t.ip := hip.symm
  have hnextFetch : (s.swap r s.fstate s.inputs).nextFetch = t.fstate := hfetch.symm
  rw [hnextIp, hnextFetch, ← hinputs] at hstep
  exact hstep

end Sys2Proof.Noninterference
end

section
/-! SUPPORT. The front ends (44_stream_front_end.md, 45_autonomous_front_end.md): what they present and ask for, and a fetch
over the cycles of its latency. -/

namespace Sys2Proof.Machine

variable {s t : State}

/-! ### The stream front end (R226 to R228) -/

theorem presented_stream (h : s.frontEnd = .stream) :
    s.presented = if s.reqIn.valid then some s.reqIn.payload else none := by
  simp [State.presented, h]

theorem accepted_stream (h : s.frontEnd = .stream) :
    s.accepted = if s.canAccept && s.reqIn.valid then some s.reqIn.payload else none := by
  cases hc : s.canAccept <;> simp [State.accepted, presented_stream h, hc]

/-! ### The Autonomous Front End (R241 to R243) -/

theorem presented_pending {k : Nat} (h : s.frontEnd = .autonomous) (hf : s.fstate = .pending k) :
    s.presented = none := by
  simp [State.presented, h, hf]

theorem presented_held {w : CmdWord} (h : s.frontEnd = .autonomous) (hf : s.fstate = .held w) :
    s.presented = some w := by
  simp [State.presented, h, hf]

theorem storeReq_pending {k : Nat} (h : s.frontEnd = .autonomous) (hf : s.fstate = .pending k) :
    s.storeReq = some { read := false, addr := Config.freeStoreAddr s.now } := by
  simp [State.storeReq, h, hf]

theorem storeReq_held {w : CmdWord} (h : s.frontEnd = .autonomous) (hf : s.fstate = .held w) :
    s.storeReq = some { read := false, addr := Config.freeStoreAddr s.now } := by
  simp [State.storeReq, h, hf]

theorem nextFetch_pending_gt {k : Nat} (h : s.frontEnd = .autonomous) (hf : s.fstate = .pending k) (hk : 1 < k) :
    s.nextFetch = .pending (k - 1) ∧ s.nextIp = s.ip := by
  simp [State.nextFetch, State.nextIp, h, hf, hk]

theorem nextFetch_pending_one (h : s.frontEnd = .autonomous) (hf : s.fstate = .pending 1) :
    s.nextFetch = .held (Memory.read s.store s.ip.toNat) ∧ s.nextIp = s.ip + 1#16 := by
  simp [State.nextFetch, State.nextIp, h, hf]

theorem nextFetch_held {w : CmdWord} (h : s.frontEnd = .autonomous) (hf : s.fstate = .held w) :
    s.nextFetch = if s.canAccept then .noFetch else .held w := by
  simp [State.nextFetch, h, hf]

/-- Only the capture of a word moves the instruction pointer (R242, R244). -/
theorem nextIp_of_no_capture (h : s.frontEnd = .stream ∨ ∀ k, s.fstate = .pending k → 2 ≤ k) : s.nextIp = s.ip := by
  cases hfront : s.frontEnd with
  | stream => exact (nextFetch_stream hfront).1
  | autonomous =>
    have hcount := h.resolve_left (by simp [hfront])
    rcases nextFetch_cases hfront with ⟨-, hip, -⟩ | ⟨k, -, -, hip, -⟩ | ⟨k, hk, hle, -, -⟩ | ⟨w, -, hip, -⟩
    case inr.inr.inl =>
      have := hcount k hk
      omega
    all_goals exact hip

/-! ### A fetch over its cycles (R245) -/

theorem stepsTo_cases {n : Nat} (h : StepsTo (n + 1) s t) : ∃ u, step s = .next u ∧ StepsTo n u t := by
  cases hstep : step s with
  | next u => exact ⟨u, rfl, (stepsTo_succ hstep).1 h⟩
  | fault e =>
    have hcore : core.step s = .fault e := hstep
    simp [StepsTo, Host.Core.run, hcore] at h
  | refused e =>
    have hcore : core.step s = .refused e := hstep
    simp [StepsTo, Host.Core.run, hcore] at h

/-- A fetch pending for `n + 1` cycles holds the word after them, whatever the engine does meanwhile. -/
theorem held_after_pending {n : Nat} (hauto : s.frontEnd = .autonomous) (hf : s.fstate = .pending (n + 1))
    (h : StepsTo (n + 1) s t) : t.fstate = .held (Memory.read s.store s.ip.toNat) ∧ t.ip = s.ip + 1#16 := by
  induction n generalizing s with
  | zero =>
    obtain ⟨u, hstep, hrest⟩ := stepsTo_cases h
    cases hrest
    obtain ⟨-, -, -, -, -, hip, hfetch⟩ := step_frame hstep
    obtain ⟨hheld, hnextIp⟩ := nextFetch_pending_one hauto hf
    exact ⟨hfetch.trans hheld, hip.trans hnextIp⟩
  | succ n ih =>
    obtain ⟨u, hstep, hrest⟩ := stepsTo_cases h
    obtain ⟨-, hfront, hstore, -, -, hip, hfetch⟩ := step_frame hstep
    obtain ⟨hpending, hnextIp⟩ := nextFetch_pending_gt hauto hf (by omega)
    have hend := ih (hfront.trans hauto) (hfetch.trans hpending) hrest
    rwa [hstore, hip, hnextIp] at hend

end Sys2Proof.Machine
end

section
/-! PROOFS. The obligations on flow control, the front ends and the fields no step writes. -/

namespace Sys2Proof.FrontEnds

open Sys2Proof.Machine

/-- Settles O53: the rules of `Pending` and `Held`, which a step writes whatever its core does (`step_frame`). -/
theorem fetchCompletesAndHolds : Obligations.FetchCompletesAndHolds := by
  intro s t hauto hstep
  obtain ⟨-, -, -, -, -, -, hfetch⟩ := step_frame hstep
  refine ⟨fun k hk => ⟨presented_pending hauto hk, ⟨_, storeReq_pending hauto hk⟩, fun hlt => ?_, fun hone => ?_⟩,
    fun w hw => ⟨presented_held hauto hw, ⟨_, storeReq_held hauto hw⟩, hfetch.trans (nextFetch_held hauto hw)⟩⟩
  · exact hfetch.trans (nextFetch_pending_gt hauto hk hlt).1
  · subst hone
    exact hfetch.trans (nextFetch_pending_one hauto hk).1

/-- Settles O54: `ip` is written by the front end alone, which moves it at a capture only (`nextIp_of_no_capture`). -/
theorem instructionPointerMovesOnlyAtCapture : Obligations.InstructionPointerMovesOnlyAtCapture := by
  intro s t hstep
  obtain ⟨-, -, -, -, -, hip, -⟩ := step_frame hstep
  refine ⟨fun hauto hone => ?_, fun h => hip.trans (nextIp_of_no_capture h)⟩
  rw [hip, (nextFetch_pending_one hauto hone).2]
  exact BitVec.toNat_add _ _

/-- Settles O55: the request starts a fetch pending for the latency, which then counts down to the capture
(`held_after_pending`). -/
theorem fetchTakesItsLatency : Obligations.FetchTakesItsLatency := by
  intro s t hauto hnone hacc hlat h
  obtain ⟨u, hstep, hrest⟩ := stepsTo_cases h
  obtain ⟨-, hfront, hstore, -, -, hip, hfetch⟩ := step_frame hstep
  obtain ⟨hnextIp, hnext⟩ := nextFetch_noFetch hauto hnone
  obtain ⟨n, hn⟩ := Nat.exists_eq_add_of_le' hlat
  rw [hacc, if_pos rfl, hn] at hnext
  rw [hn] at hrest
  have hend := held_after_pending (hfront.trans hauto) (hfetch.trans hnext) hrest
  rwa [hstore, hip, hnextIp] at hend

/-- Settles O56: the frame of a step. -/
theorem stepLeavesStoreAndParameters : Obligations.StepLeavesStoreAndParameters := by
  intro s t hstep
  obtain ⟨hparams, hfront, hstore, hinputs, hnow, -, -⟩ := step_frame hstep
  exact ⟨fun a => by rw [hstore], hstore, hparams, hfront, hnow, hinputs⟩

/-- Settles O48: `can_accept` by the class of the state. -/
theorem commandsAreAcceptedExactlyWhenReady : Obligations.CommandsAreAcceptedExactlyWhenReady := by
  intro s
  refine ⟨fun htx => canAccept_false_of_busy (.inl htx), canAccept_completing, fun hq htx => ?_, fun hq htx => ?_⟩
  · have hr : s.running = false := by
      rcases hq with hq | hterm
      exacts [by simp [State.running, hq], running_of_terminal hterm]
    refine (canAccept_iff s).2 ⟨htx, fun hc => ?_, by simp [hr]⟩
    simp [State.running, hc] at hr
  · rcases hq with hq | hq <;> simp [State.canAccept, State.running, htx, hq]

/-- Settles O49: behind the stream front end `accepted` is the acknowledged request (`accepted_stream`). -/
theorem acknowledgeIsAcceptance : Obligations.AcknowledgeIsAcceptance := by
  intro s hstream
  refine ⟨by simp [State.ack, hstream], fun ⟨hvalid, hacc⟩ => ?_, fun h => ?_, by simp [State.storeReq, hstream]⟩
  · rw [accepted_stream hstream, hvalid, hacc]
    rfl
  · rw [accepted_stream hstream]
    rcases h with h | h <;> simp [h]

end Sys2Proof.FrontEnds
end

section
/-! SUPPORT. The bytes of a run: result bytes from retirement to the caller (R160, R165), payload bytes from the accepted
command to their group (R129, R130), and a `data-last` with too little of them (R132). -/

namespace Sys2Proof.Machine

variable {s t u v : State} {o : Operation}

/-! ### The result pulse (R160) -/

theorem rvalid_of_cool (h : s.rcool = false) : s.rvalid = min 3 s.rbuf.length := by
  simp [State.rvalid, h, Config.maxPulse]

theorem rvalid_of_rcool (h : s.rcool = true) : s.rvalid = 0 := by
  simp [State.rvalid, h]

/-! ### Result bytes (R155, R165) -/

theorem State.retireOk_rbuf (o : Operation) (w : Word) (s : State) :
    (s.retireOk o w).rbuf = s.rbuf ++ if o.kind = .read then bytesLE w.toNat o.rbytes else [] := by
  rcases retireOk_cases o w s with ⟨hk, h⟩ | ⟨hk, h⟩ | ⟨hk, h⟩ <;> simp [h, hk, resultBytes]

theorem State.offBus_rbuf (o : Operation) (s : State) : (s.offBus o).rbuf = s.rbuf := by
  rcases offBus_cases o s with ⟨-, -, h⟩ | ⟨-, -, h⟩ | ⟨-, -, h⟩ | ⟨-, -, h⟩ <;> simp [h]

/-- The result bytes a cycle appends: those of a read that retires in it, and none otherwise (R165, R193). -/
def retiredBytes (s : State) : List Byte :=
  match s.seq, s.op, s.txn with
  | .executing, some o, some _ =>
    if s.busIn.ready = true ∧ s.busIn.err = false ∧ o.kind = .read then bytesLE s.busIn.rdata.toNat o.rbytes else []
  | _, _, _ => []

theorem retiredBytes_of_not_executing (hq : s.seq ≠ .executing) : retiredBytes s = [] := by
  unfold retiredBytes
  split <;> simp_all

theorem retiredBytes_of_txn {tx : Txn} (hq : s.seq = .executing) (ho : s.op = some o) (htx : s.txn = some tx) :
    retiredBytes s =
      if s.busIn.ready = true ∧ s.busIn.err = false ∧ o.kind = .read then bytesLE s.busIn.rdata.toNat o.rbytes
      else [] := by
  simp [retiredBytes, hq, ho, htx]

/-- Nothing is appended while no transaction is outstanding or the target has not answered. -/
theorem retiredBytes_of_no_answer (h : s.txn = none ∨ s.busIn.ready = false) : retiredBytes s = [] := by
  unfold retiredBytes
  split
  · next hq ho htx =>
    have hready := h.resolve_left (by simp [htx])
    simp [hready]
  · rfl

/-- While the run goes on, the Sequencer appends the retired bytes to the result buffer and does nothing else to it. -/
theorem sequencerAction_rbuf (h : sequencerAction s = .next u) (hu : u.running = true) :
    u.rbuf = s.rbuf ++ retiredBytes s := by
  rcases sequencerAction_cases h with ⟨hq, rfl⟩ | ⟨hq, -, rfl⟩ | ⟨hq, -, rfl⟩ | ⟨hq, o, tx, ho, htx, rfl⟩ |
    ⟨hq, o, ho, htx, rfl⟩ | ⟨hq, rfl⟩ | ⟨-, rfl⟩
  · simp [State.running, hq] at hu
  · simp [retiredBytes_of_not_executing (s := s) (by simp [hq])]
  · simp [retiredBytes_of_not_executing (s := s) (by simp [hq])]
  · rw [retiredBytes_of_txn hq ho htx]
    rcases onBus_cases o s.busIn s with ⟨hr, hb⟩ | ⟨-, -, hb⟩ | ⟨hr, he, hb⟩
    · simp [hb, hr]
    · simp [hb] at hu
    · simp [hb, hr, he, State.retireOk_rbuf]
  · simp [retiredBytes_of_no_answer (.inl htx), State.offBus_rbuf]
  · rw [retiredBytes_of_not_executing (by simp [hq])]
    rcases complete_cases s with ⟨-, hc⟩ | ⟨-, -, hc⟩ | ⟨-, -, hc⟩
    · simp [hc]
    · simp [hc] at hu
    · simp [hc] at hu
  · simp at hu

/-! ### Payload bytes (R129) -/

/-- The payload bytes of the command accepted in a cycle, if it carries any (R125, R126). -/
def payloadOf (cmd : Option Instr) : List Byte :=
  match cmd with
  | some (.data c d) => payloadBytes c d
  | some (.datalast c d) => payloadBytes c d
  | _ => []

/-- A command that leaves an open run open appends its payload to the queue and touches no group and no result. -/
theorem commandActs_in_run (hcmd : CommandActs s u v) (hu : u.running = true) (hv : v.running = true) :
    v.q = u.q ++ payloadOf (acceptedCommand s) ∧ v.hdr = u.hdr ∧ v.opnd = u.opnd ∧ v.rbuf = u.rbuf := by
  rcases hcmd with ⟨hnone, rfl⟩ | ⟨w, hw, hexec⟩
  · rw [acceptedCommand_eq_none.2 hnone]
    exact ⟨(List.append_nil _).symm, rfl, rfl, rfl⟩
  rw [acceptedCommand_of_accepted hw]
  rcases exec_in_run hu hexec with ⟨c, d, hdec, rfl⟩ | ⟨c, d, hdec, -, rfl⟩ | ⟨c, d, hdec, -, rfl⟩ | ⟨-, rfl⟩ |
    ⟨-, cause, rfl⟩
  · rw [hdec]
    exact ⟨(List.append_nil _).symm, rfl, rfl, rfl⟩
  · rw [hdec]
    exact ⟨rfl, rfl, rfl, rfl⟩
  · rw [hdec]
    exact ⟨rfl, rfl, rfl, rfl⟩
  · simp at hv
  · simp at hv

/-- A step inside a run that stays open is the Sequencer's action and the command on an open run, and the end of the
cycle. -/
theorem step_in_run (hs : s.running = true) (h : step s = .next t) (ht : t.running = true) :
    ∃ u v, sequencerAction s = .next u ∧ u.running = true ∧ CommandActs s u v ∧ v.running = true ∧
      t = endCycle Config.hdrLen s v := by
  obtain ⟨u, v, hseq, hcmd, rfl⟩ := cycle_cases h
  rw [endCycle_running] at ht
  have hpass := checkSufficient_of_running ht
  rw [hpass] at ht ⊢
  exact ⟨u, v, hseq, running_before_command hs hseq hcmd ht, hcmd, ht, rfl⟩

/-- While the header is awaited, header and queue together are one stream (R95, R130). -/
theorem sequencerAction_header_stream (hq : s.seq = .awaitingAddress) (h : sequencerAction s = .next u) :
    u.hdr ++ u.q = s.hdr ++ s.q := by
  by_cases hlen : s.hdr.length = Config.hdrLen
  · cases (sequencerAction_decode hq hlen).symm.trans h
    rfl
  · cases (sequencerAction_popHdr hq hlen).symm.trans h
    simp

/-- With the bus idle, operand group and queue together are one stream (R95, R130). -/
theorem State.offBus_stream (o : Operation) (s : State) :
    (s.offBus o).hdr = s.hdr ∧ (s.offBus o).opnd ++ (s.offBus o).q = s.opnd ++ s.q := by
  rcases offBus_cases o s with ⟨-, -, h⟩ | ⟨-, -, h⟩ | ⟨-, -, h⟩ | ⟨-, -, h⟩ <;> simp [h]

theorem sequencerAction_group_stream (hq : s.seq = .executing) (htx : s.txn = none)
    (h : sequencerAction s = .next u) : u.hdr = s.hdr ∧ u.opnd ++ u.q = s.opnd ++ s.q := by
  cases ho : s.op with
  | none => simp [sequencerAction, sequencer, hq, ho] at h
  | some o =>
    cases (sequencerAction_offBus hq ho htx).symm.trans h
    exact State.offBus_stream o s

/-! ### The delivery of a read result (R156, R157, R193) -/

/-- In `Completing` with enough payload, having ended with outcome `Ok`. -/
structure Draining (s : State) : Prop where
  completing : s.seq = .completing
  outcome : s.outcome = .ok
  sufficient : insufficient Config.hdrLen s = false

/-- The end of a cycle, whatever it began in, keeps `Draining`. -/
theorem Draining.endCycle (h : Draining s) (n : Nat) (start : State) : Draining (Machine.endCycle n start s) :=
  ⟨by simpa using h.completing, by simpa using h.outcome, by simpa using h.sufficient⟩

/-- In `Completing` with results left, a step is its end alone: the pulse. -/
theorem Draining.step_eq (h : Draining s) (hb : s.rbuf ≠ []) : step s = .next (Machine.endCycle Config.hdrLen s s) := by
  have hwait : s.complete = s := if_neg hb
  have hpass : s.checkSufficient Config.hdrLen = s := by simp [State.checkSufficient, h.sufficient]
  rw [step_completing h.completing, hwait, hpass]

/-- In `Completing` with no results left, a step enters `Completed`. -/
theorem Draining.completes (h : Draining s) (hb : s.rbuf = []) (hstep : step s = .next t) : t.seq = .completed := by
  have henter : s.complete = s.enterCompleted := by simp [State.complete, hb, h.outcome]
  rw [step_completing h.completing, henter, checkSufficient_self _ (.inl rfl)] at hstep
  cases hstep
  rfl

/-- The last transaction done and `data-last` seen, the step leaves for `Completing` and changes nothing else of the run. -/
theorem step_leaves (hsuff : insufficient Config.hdrLen s = false) (hq : s.seq = .executing) (htx : s.txn = none)
    (ho : s.op = some o) (hdone : opDone o s = true) (hlast : s.lastSeen = true) (hout : s.outcome = .ok) :
    step s = .next (endCycle Config.hdrLen s { s with seq := .completing }) ∧
      Draining { s with seq := .completing } := by
  have hsame : insufficient Config.hdrLen { s with seq := .completing } = false := by
    rw [← hsuff]
    simp [insufficient, State.running, hq]
  have hpass : State.checkSufficient Config.hdrLen { s with seq := .completing } = { s with seq := .completing } := by
    simp [State.checkSufficient, hsame]
  have hleave : s.offBus o = { s with seq := .completing } := by simp [State.offBus, hdone, hlast]
  have hacc := accepted_none_after_dataLast (s := s) (by simp [State.running, hq]) hlast
  exact ⟨by rw [step_of_no_command hacc (sequencerAction_offBus hq ho htx), hleave, hpass], rfl, hout, hsame⟩

/-- Four result bytes are those of the one read of `RD`, which is then done. -/
theorem done_of_four_results (hop : OperationInv (hlDefault s.params.pollBudget) o s) (hb : s.rbuf.length = 4) :
    opDone o s = true ∧ s.outcome = .ok := by
  have hne : s.rbuf ≠ [] := fun h => by simp [h] at hb
  have htrans := hop.transBounded
  have hresults := hop.resultsBounded
  obtain ⟨a, rfl | rfl | rfl | rfl⟩ := hop.record_cases
  · have hone : s.transDone = 1 := by
      simp only [rdOperation] at htrans hresults
      omega
    exact ⟨(opDone_other_iff (by simp [rdOperation])).2 hone, (hop.ofOther (by simp [rdOperation])).2.2⟩
  · exact absurd (hop.ofWrite rfl) hne
  · exact absurd (hop.ofPoll rfl).2 hne
  · exact absurd (hop.ofWrite rfl) hne

/-- The three low bytes of a word. -/
theorem leWord_first_three (w : Word) : leWord ((bytesLE w.toNat 4).take 3) = w &&& 0x00FFFFFF#32 := by
  have htake : (bytesLE w.toNat 4).take 3 = bytesLE w.toNat 3 := rfl
  refine BitVec.eq_of_toNat_eq ?_
  have hmask : w.toNat &&& (2 ^ 24 - 1) = w.toNat % 2 ^ 24 := Nat.and_two_pow_sub_one_eq_mod _ _
  rw [htake, leWord, leNat_bytesLE, BitVec.toNat_ofNat, BitVec.toNat_and, show (0x00FFFFFF#32).toNat = 2 ^ 24 - 1 from rfl,
    hmask]
  omega

/-- The high byte of a word. -/
theorem leWord_last_byte (w : Word) : leWord ((bytesLE w.toNat 4).drop 3) = w >>> 24 := by
  have hdrop : (bytesLE w.toNat 4).drop 3 = bytesLE (w.toNat / 256 / 256 / 256) 1 := rfl
  refine BitVec.eq_of_toNat_eq ?_
  have := w.isLt
  rw [hdrop, leWord, leNat_bytesLE, BitVec.toNat_ofNat, BitVec.toNat_ushiftRight, Nat.shiftRight_eq_div_pow]
  omega

end Sys2Proof.Machine
end

section
/-! PROOFS. The obligations on pulses, result bytes and payload bytes. -/

namespace Sys2Proof.Bytes

open Sys2Proof.Machine

/-- Settles O59: the end of a cycle writes both. -/
theorem cooldownsRecordThePulses : Obligations.CooldownsRecordThePulses := by
  intro s t h
  obtain ⟨u, v, -, -, rfl⟩ := cycle_cases h
  exact ⟨decide_eq_true_iff, decide_eq_true_iff⟩

/-- Settles O39: the pulse takes from the head what was there at the start of the cycle, and the Sequencer appends
`retiredBytes` at the tail. -/
theorem resultBytesComeInOrder : Obligations.ResultBytesComeInOrder := by
  refine ⟨fun s => ⟨rvalid_of_cool, rvalid_of_rcool, rfl⟩, fun s t h hpos => ?_, fun s t h hs ht => ?_⟩
  · exact rvalid_of_rcool ((cooldownsRecordThePulses s t h).2.2 hpos)
  · obtain ⟨u, v, hseq, hu, hcmd, hv, rfl⟩ := step_in_run hs h ht
    obtain ⟨-, -, -, hrbuf⟩ := commandActs_in_run hcmd hu hv
    refine ⟨retiredBytes s, ?_, retiredBytes_of_no_answer, fun o ho hq htx hready herr => ?_⟩
    · rw [endCycle_rbuf, hrbuf, sequencerAction_rbuf hseq hu, List.drop_append_of_le_length (rvalid_le s).2,
        ← List.append_assoc, List.take_append_drop]
    · obtain ⟨tx, htx⟩ := Option.ne_none_iff_exists'.1 htx
      simp [retiredBytes_of_txn hq ho htx, hready, herr]

/-- Settles O41: the Sequencer moves bytes from the queue to the group behind those it has, and the command appends to the
queue. -/
theorem payloadStreamIsPreserved : Obligations.PayloadStreamIsPreserved := by
  refine ⟨fun s t h hq ht => ?_, fun s t h hq htx ht => ?_⟩
  · obtain ⟨u, v, hseq, hu, hcmd, hv, rfl⟩ := step_in_run (by simp [State.running, hq]) h ht
    obtain ⟨hqueue, hhdr, -, -⟩ := commandActs_in_run hcmd hu hv
    rw [endCycle_hdr, endCycle_q, hqueue, hhdr, ← List.append_assoc, sequencerAction_header_stream hq hseq]
    rfl
  · obtain ⟨u, v, hseq, hu, hcmd, hv, rfl⟩ := step_in_run (by simp [State.running, hq]) h ht
    obtain ⟨hqueue, hhdr, hopnd, -⟩ := commandActs_in_run hcmd hu hv
    obtain ⟨hhdr', hstream⟩ := sequencerAction_group_stream hq htx hseq
    rw [endCycle_hdr, endCycle_opnd, endCycle_q, hqueue, hopnd, ← List.append_assoc, hstream]
    exact ⟨hhdr.trans hhdr', rfl⟩

/-- Settles O40: four results mean the read is done, so the cycles are the leaving for `Completing` with the first pulse, a
cooldown, the second pulse, and the entry to `Completed`. -/
theorem readResultTakesTwoPulses : Obligations.ReadResultTakesTwoPulses := by
  intro s t₁ t₂ t₃ t₄ v hinv hq htx hlast hb hcool h₁ h₂ h₃ h₄
  obtain ⟨o, ho, hop⟩ := hinv.working (.inl hq)
  obtain ⟨hdone, hout⟩ := done_of_four_results hop (by rw [hb, bytesLE_length])
  obtain ⟨hleave, hdrain⟩ := step_leaves hinv.sufficient hq htx ho hdone hlast hout
  have hvalid : s.rvalid = 3 := by rw [rvalid_of_cool hcool, hb, bytesLE_length]; rfl
  have hlen : ((bytesLE v.toNat 4).drop 3).length = 1 := by rw [List.length_drop, bytesLE_length]
  have hne : (bytesLE v.toNat 4).drop 3 ≠ [] := List.ne_nil_of_length_pos (by omega)
  -- the first pulse, in the cycle that leaves `Executing`
  have ht₁ := Host.Outcome.next.inj (h₁.symm.trans hleave)
  have hd₁ : Draining t₁ := ht₁ ▸ hdrain.endCycle _ _
  have hb₁ : t₁.rbuf = (bytesLE v.toNat 4).drop 3 := by rw [ht₁, endCycle_rbuf, hvalid, ← hb]
  have hv₁ : t₁.rvalid = 0 := rvalid_of_rcool (by simp [ht₁, hvalid])
  -- the cooldown
  have ht₂ := Host.Outcome.next.inj (h₂.symm.trans (hd₁.step_eq (hb₁ ▸ hne)))
  have hd₂ : Draining t₂ := ht₂ ▸ hd₁.endCycle _ _
  have hb₂ : t₂.rbuf = (bytesLE v.toNat 4).drop 3 := by rw [ht₂, endCycle_rbuf, hv₁, List.drop_zero, hb₁]
  have hv₂ : t₂.rvalid = 1 := by rw [rvalid_of_cool (by simp [ht₂, hv₁]), hb₂, hlen]; rfl
  -- the second pulse
  have ht₃ := Host.Outcome.next.inj (h₃.symm.trans (hd₂.step_eq (hb₂ ▸ hne)))
  have hd₃ : Draining t₃ := ht₃ ▸ hd₂.endCycle _ _
  have hb₃ : t₃.rbuf = [] := by
    rw [ht₃, endCycle_rbuf, hv₂, hb₂]
    exact List.drop_eq_nil_of_le hlen.le
  have hv₃ : t₃.rvalid = 0 := rvalid_of_rcool (by simp [ht₃, hv₂])
  refine ⟨hvalid, ?_, hd₁.completing, hv₁, hd₂.completing, hv₂, ?_, hd₃.completing, hv₃, hd₃.completes hb₃ h₄⟩
  · rw [State.rdata, hvalid, hb, leWord_first_three]
  · rw [State.rdata, hv₂, hb₂, List.take_of_length_le hlen.le, leWord_last_byte]

end Sys2Proof.Bytes
end

section
/-! SUPPORT. The cycle of a `data-last` and the sufficiency check after it (R126, R132). -/

namespace Sys2Proof.Machine

variable {s u v : State} {o : Operation} {c : BitVec 3} {d : BitVec 48}

/-- The header's bytes are part of what any operation requires (R192). -/
theorem le_required (n : Nat) (o : Operation) : n ≤ required n o := by
  unfold required
  cases o.kind <;> simp

/-- The state a cycle leaves to the sufficiency check. -/
theorem step_of_datalast (hr : s.running = true) (hcmd : acceptedCommand s = some (.datalast c d)) (hc : c ≠ 7#3)
    (hseq : sequencerAction s = .next u) :
    step s = .next (endCycle Config.hdrLen s
      (State.checkSufficient Config.hdrLen { u.append c d with lastSeen := true })) ∧ u.running = true := by
  have hu := (sequencerAction_running (canAccept_of_acceptedCommand hcmd) hseq).trans hr
  refine ⟨?_, hu⟩
  rw [step_of_acceptedCommand hcmd, hseq, andThen_of_next, exec_datalast_in_run d hc hu]
  rfl

/-- How a step ends that finds the payload short (R126 (a), R132). -/
def AbortsShort (s : State) : Prop :=
  ∃ t, step s = .next t ∧ t.seq = .errored ∧ t.resid = some .incompleteOperation ∧ t.txn = none ∧ Cleared t

theorem abortsShort_of_insufficient
    (hstep : step s = .next (endCycle Config.hdrLen s (v.checkSufficient Config.hdrLen)))
    (hi : insufficient Config.hdrLen v = true) : AbortsShort s := by
  have hfail : v.checkSufficient Config.hdrLen = v.fail .incompleteOperation := if_pos hi
  rw [hfail] at hstep
  exact ⟨_, hstep, rfl, rfl, rfl, endCycle_fail_cleared _ _ s v⟩

theorem step_of_sufficient
    (hstep : step s = .next (endCycle Config.hdrLen s (v.checkSufficient Config.hdrLen)))
    (hi : insufficient Config.hdrLen v = false) : step s = .next (endCycle Config.hdrLen s v) := by
  have hpass : v.checkSufficient Config.hdrLen = v := by simp [State.checkSufficient, hi]
  rwa [hpass] at hstep

/-- Whether a run with its end marked and its operation known is short is one comparison. -/
theorem insufficient_of_op (hr : v.running = true) (hlast : v.lastSeen = true) (ho : v.op = some o) :
    insufficient Config.hdrLen v = decide (v.acc < required Config.hdrLen o) := by
  have hle := le_required Config.hdrLen o
  have hshort : (decide (v.acc < Config.hdrLen) || decide (v.acc < required Config.hdrLen o)) =
      decide (v.acc < required Config.hdrLen o) := by
    by_cases h : v.acc < Config.hdrLen <;> simp [h]
    omega
  simpa [insufficient, hr, hlast, ho] using hshort

/-- The decode cycle, with `data-last` before it or in it, aborts or goes on by that comparison. -/
theorem decode_cycle_ends (hstep : step s = .next (endCycle Config.hdrLen s (v.checkSufficient Config.hdrLen)))
    (hq : v.seq = .executing) (hlast : v.lastSeen = true) (ho : v.op = some o) (hres : v.resid = s.resid) :
    (v.acc < required Config.hdrLen o → AbortsShort s) ∧
    (required Config.hdrLen o ≤ v.acc →
      ∃ t, step s = .next t ∧ t.seq = .executing ∧ t.op = some o ∧ t.lastSeen = true ∧ t.resid = s.resid) := by
  have hi := insufficient_of_op (by simp [State.running, hq]) hlast ho
  refine ⟨fun hshort => abortsShort_of_insufficient hstep (by simp [hi, hshort]), fun henough => ?_⟩
  exact ⟨_, step_of_sufficient hstep (by simp [hi, henough]), by simp [hq], by simp [ho], by simp [hlast], by simp [hres]⟩

end Sys2Proof.Machine
end

section
/-! PROOFS. The obligation on too little payload. -/

namespace Sys2Proof.Sufficiency

open Sys2Proof.Machine

/-- `data-last` accepted in a run whose payload is short of the header, or of the recorded operation. -/
theorem datalast_aborts {s : State} {c : BitVec 3} {d : BitVec 48} (hinv : MachineInv s) (hr : s.running = true)
    (hcmd : acceptedCommand s = some (.datalast c d)) (hc : c ≠ 7#3)
    (hshort : s.acc + c.toNat < 4 ∨ ∃ o, s.op = some o ∧ s.acc + c.toNat < required 4 o) : AbortsShort s := by
  have hopen := (open_of_canAccept hr (canAccept_of_acceptedCommand hcmd)).1
  have hact : s.seq ≠ .executing ∨ s.op ≠ none := by
    by_cases hq : s.seq = .executing
    · obtain ⟨o, ho, -⟩ := hinv.working (.inl hq)
      exact .inr (by simp [ho])
    · exact .inl hq
  obtain ⟨u, hseq⟩ := sequencerAction_total hact
  obtain ⟨hstep, hu⟩ := step_of_datalast hr hcmd hc hseq
  obtain ⟨hacc, -, -, hop⟩ := sequencerAction_in_run hseq hu
  refine abortsShort_of_insufficient hstep ((insufficient_iff _ _).2 ⟨hu, rfl, ?_⟩)
  have hacc' : (u.append c d).acc = s.acc + c.toNat := congrArg (· + c.toNat) hacc
  refine hshort.imp (fun hlt => hacc'.trans_lt hlt) fun ⟨o, ho, hlt⟩ => ⟨o, ?_, hacc'.trans_lt hlt⟩
  have hq : s.seq = .executing := hopen.resolve_left fun hq => by simp [(hinv.awaiting hq).1] at ho
  exact hop.trans ((if_neg (by simp [hq])).trans ho)

/-- `data-last` accepted while the header is awaited, with enough payload for it. -/
theorem datalast_awaits_header {s : State} {c : BitVec 3} {d : BitVec 48} (hinv : MachineInv s)
    (hq : s.seq = .awaitingAddress) (hlen : s.hdr.length < 4) (hcmd : acceptedCommand s = some (.datalast c d))
    (hc : c ≠ 7#3) (henough : 4 ≤ s.acc + c.toNat) :
    ∃ t, step s = .next t ∧ t.seq = .awaitingAddress ∧ t.lastSeen = true ∧ t.resid = s.resid := by
  have hseq := sequencerAction_popHdr hq (Nat.ne_of_lt hlen)
  obtain ⟨hstep, -⟩ := step_of_datalast (by simp [State.running, hq]) hcmd hc hseq
  refine ⟨_, step_of_sufficient hstep (Bool.eq_false_iff.2 fun hi => ?_), by simpa using hq, rfl, rfl⟩
  obtain ⟨-, -, hlt | ⟨o, ho, -⟩⟩ := (insufficient_iff _ _).1 hi
  · exact Nat.not_lt.2 henough hlt
  · have hnone : s.op = none := (hinv.awaiting hq).1
    simp [hnone] at ho

/-- `data-last` accepted in `Executing`, with enough payload for the recorded operation. -/
theorem datalast_executing {s : State} {c : BitVec 3} {d : BitVec 48} {o : Operation} (hq : s.seq = .executing)
    (ho : s.op = some o) (hcmd : acceptedCommand s = some (.datalast c d)) (hc : c ≠ 7#3)
    (henough : required 4 o ≤ s.acc + c.toNat) :
    ∃ t, step s = .next t ∧ t.seq = .executing ∧ t.lastSeen = true ∧ t.resid = s.resid := by
  have hr : s.running = true := by simp [State.running, hq]
  have hacc := canAccept_of_acceptedCommand hcmd
  have hlast := (open_of_canAccept hr hacc).2
  obtain ⟨htx, -, -⟩ := (canAccept_iff s).1 hacc
  obtain ⟨hstep, hu⟩ := step_of_datalast hr hcmd hc (sequencerAction_offBus hq ho htx)
  have hstays : (s.offBus o).seq = .executing := by
    rcases offBus_cases o s with ⟨-, hl, -⟩ | ⟨-, -, h⟩ | ⟨-, -, h⟩ | ⟨-, -, h⟩
    · simp [hlast] at hl
    all_goals simp [h, hq]
  obtain ⟨hacc', -, hres, hop⟩ := sequencerAction_in_run (sequencerAction_offBus hq ho htx) hu
  have hrecorded : (s.offBus o).op = some o := hop.trans ((if_neg (by simp [hq])).trans ho)
  have hi := insufficient_of_op (v := { (s.offBus o).append c d with lastSeen := true }) hu rfl hrecorded
  refine ⟨_, step_of_sufficient hstep (hi.trans (decide_eq_false (Nat.not_lt.2 ?_))), hstays, rfl, hres⟩
  exact henough.trans_eq (congrArg (· + c.toNat) hacc').symm

/-- Settles O21: the check at the end of the cycle compares the payload count with the header's length and with what the
operation known by then requires, before anything is issued. -/
theorem shortPayloadAborts : Obligations.ShortPayloadAborts := by
  refine ⟨fun s c d => datalast_aborts, fun s hq hlen => ?_, fun s c d => datalast_awaits_header,
    fun s c d o _ => datalast_executing⟩
  have hr : s.running = true := by simp [State.running, hq]
  have hseq := sequencerAction_decode hq hlen
  refine ⟨fun hlast => ?_, fun c d hcmd hc => ?_⟩
  · have hstep := step_of_no_command (accepted_none_after_dataLast hr hlast) hseq
    have hends := decode_cycle_ends hstep rfl hlast rfl rfl
    exact hends
  · have hends := decode_cycle_ends (step_of_datalast hr hcmd hc hseq).1 rfl rfl rfl rfl
    exact hends

end Sys2Proof.Sufficiency
end

section
/-! SUPPORT. The operations one cycle at a time (42_operations.md): what each does in each state of its life, and the bytes
its operands and results are made of. -/

namespace Sys2Proof.Machine

variable {s : State} {o : Operation}

/-! ### What an operation does in each state (R154 to R157) -/

theorem exec_rd (a : Word) (s : State) : exec (.rd a) s = .next (s.operate (rdOperation a)) := rfl

theorem exec_wz (a : Word) (s : State) : exec (.wz a) s = .next (s.operate (wzOperation a)) := rfl

theorem exec_poll (a : Word) (s : State) :
    exec (.poll a) s = .next (s.operate (pollOperation a s.params.pollBudget)) := rfl

theorem exec_wr (a : Word) (s : State) : exec (.wr a) s = .next (s.operate (wrOperation a)) := rfl

theorem operate_awaiting (o : Operation) (hq : s.seq = .awaitingAddress) : s.operate o = s.enterExecuting o := by
  simp [State.operate, hq]

theorem operate_onBus (o : Operation) (hq : s.seq = .executing) (htx : s.txn ≠ none) :
    s.operate o = s.onBus o s.busIn := by
  obtain ⟨tx, htx⟩ := Option.ne_none_iff_exists'.1 htx
  simp [State.operate, State.execute, hq, htx]

theorem operate_offBus (o : Operation) (hq : s.seq = .executing) (htx : s.txn = none) : s.operate o = s.offBus o := by
  simp [State.operate, State.execute, hq, htx]

theorem operate_retire (o : Operation) (hq : s.seq = .executing) (htx : s.txn ≠ none) (hready : s.busIn.ready = true)
    (herr : s.busIn.err = false) : s.operate o = s.retireOk o s.busIn.rdata := by
  simp [operate_onBus o hq htx, State.onBus, hready, herr]

theorem operate_issue (hq : s.seq = .executing) (htx : s.txn = none) (hdone : opDone o s = false)
    (hlen : opNeed o ≤ s.opnd.length) : s.operate o = s.issue o := by
  simp [operate_offBus o hq htx, State.offBus, hdone, Nat.not_lt.2 hlen]

theorem operate_consume (hq : s.seq = .executing) (htx : s.txn = none) (hdone : opDone o s = false)
    (hlen : s.opnd.length < opNeed o) : s.operate o = s.popOpnd (pulseSize s s.opnd.length (opNeed o)) := by
  simp [operate_offBus o hq htx, State.offBus, hdone, hlen]

theorem operate_done (hq : s.seq = .executing) (htx : s.txn = none) (hdone : opDone o s = true) :
    s.operate o = if s.lastSeen then { s with seq := .completing } else s := by
  simp [operate_offBus o hq htx, State.offBus, hdone]

/-- The operation recorded is the one that acts in every cycle after the decode cycle. -/
theorem sequencerAction_operate (hq : s.seq = .executing ∨ s.seq = .completing) (ho : s.op = some o) :
    sequencerAction s = .next (s.operate o) := by
  rcases hq with hq | hq <;> simp [sequencerAction, sequencer, State.operate, hq, ho]

/-! ### When the four operations are done (R163, R191) -/

theorem opDone_rd (a : Word) (s : State) : opDone (rdOperation a) s = (s.transDone == 1) := rfl

theorem opDone_wz (a : Word) (s : State) : opDone (wzOperation a) s = (s.transDone == 1) := rfl

theorem opDone_wr (a : Word) (s : State) : opDone (wrOperation a) s = (s.transDone == 1) := rfl

theorem opDone_poll (a : Word) (n : Nat) (s : State) :
    opDone (pollOperation a n) s = (s.pollMet || s.attempts == n) := rfl

/-! ### The pulse (R130) -/

theorem pulseSize_eq (s : State) (a b : Nat) :
    pulseSize s a b = if s.cool then 0 else min 3 (min s.q.length (b - a)) := by
  unfold pulseSize
  cases s.cool <;> by_cases hq : s.q = [] <;> simp [hq, Config.maxPulse]

/-! ### Words and their bytes (R65, R66) -/

/-- Four bytes assemble to the word they are concatenated to, the first the least significant. -/
theorem leWord_four (b0 b1 b2 b3 : Byte) :
    leWord [b0, b1, b2, b3] = (b3 ++ b2 ++ b1 ++ b0 : BitVec (8 + 8 + 8 + 8)) := by
  refine BitVec.eq_of_toNat_eq ?_
  have h0 := b0.isLt
  have h1 := b1.isLt
  have h2 := b2.isLt
  have h3 := b3.isLt
  rw [toNat_append_eq_add, toNat_append_eq_add, toNat_append_eq_add]
  simp only [leWord, leNat, BitVec.toNat_ofNat]
  omega

/-- The bytes of a word are its fields of eight bits. -/
theorem bytesLE_four (w : Word) :
    bytesLE w.toNat 4 = [w.extractLsb' 0 8, w.extractLsb' 8 8, w.extractLsb' 16 8, w.extractLsb' 24 8] := by
  have hbyte (k i : Nat) (hk : k = w.toNat / 2 ^ i) : BitVec.ofNat 8 k = w.extractLsb' i 8 := by
    refine BitVec.eq_of_toNat_eq ?_
    rw [BitVec.toNat_ofNat, BitVec.extractLsb'_toNat, Nat.shiftRight_eq_div_pow, hk]
  simp only [bytesLE]
  rw [hbyte _ 0 (by omega), hbyte _ 8 (by omega), hbyte _ 16 (by omega), hbyte _ 24 (by omega)]

end Sys2Proof.Machine
end

section
/-! PROOFS. The obligations on the operations of 42_operations.md. -/

namespace Sys2Proof.Operations

open Sys2Proof.Machine

/-- Settles O22: each operation enters `Executing` with its record. -/
theorem decodeCycleRecordsOperation : Obligations.DecodeCycleRecordsOperation := by
  intro a s hq
  have hdecode (o : Operation) : (.next (s.operate o) : Result) = .next (s.enterExecuting o) :=
    congrArg _ (operate_awaiting o hq)
  exact ⟨hdecode _, hdecode _, hdecode _, hdecode _⟩

/-- Settles O23: with work left and the group complete each operation issues its transaction; the datum of `WR` is
`leWord_four`. -/
theorem operationsIssueTheirTransaction : Obligations.OperationsIssueTheirTransaction := by
  intro a s hq htx
  refine ⟨fun hleft => ?_, fun hleft hopnd => ?_, fun hmet hleft hlen => ?_, fun d0 d1 d2 d3 hleft hopnd => ?_⟩
  · rw [exec_rd, operate_issue hq htx (by simp [opDone_rd, hleft]) (Nat.zero_le _)]
    rfl
  · rw [exec_wz, operate_issue hq htx (by simp [opDone_wz, hleft]) (Nat.zero_le _), State.issue, issuedTxn, hopnd]
    rfl
  · rw [exec_poll, operate_issue hq htx (by simp [opDone_poll, hmet, hleft]) (by simp [opNeed, pollOperation, hlen])]
    rfl
  · rw [exec_wr, operate_issue hq htx (by simp [opDone_wr, hleft]) (by simp [opNeed, wrOperation, hopnd]),
      ← leWord_four, ← hopnd]
    rfl

/-- Settles O24: the pulse's size is `pulseSize_eq`; the action and the output take the same number. -/
theorem operandGroupIsConsumedInPulses : Obligations.OperandGroupIsConsumedInPulses := by
  refine ⟨fun s hq hlen => ?_, fun a s hq htx => ⟨fun hleft hlen => ?_, fun hmet hleft hlen => ?_⟩⟩
  · have hne : s.hdr.length ≠ Config.hdrLen := Nat.ne_of_lt hlen
    rw [sequencerAction_popHdr hq hne, consumed_awaiting hq, if_neg hne, pulseSize_eq]
    exact ⟨rfl, rfl⟩
  · have hdone : opDone (wrOperation a) s = false := by simp [opDone_wr, hleft]
    rw [exec_wr, operate_consume hq htx hdone hlen, pulseSize_eq]
    refine ⟨rfl, fun ho => ?_⟩
    rw [consumed_offBus hq htx ho, hdone, pulseSize_eq]
    exact if_pos hlen
  · have hdone : opDone (pollOperation a s.params.pollBudget) s = false := by
      simp [opDone_poll, hmet, hleft]
    rw [exec_poll, operate_consume hq htx hdone hlen, pulseSize_eq]
    refine ⟨rfl, fun ho => ?_⟩
    rw [consumed_offBus hq htx ho, hdone, pulseSize_eq]
    exact if_pos hlen

/-- Settles O25: `onBus` without `ready` is the identity. -/
theorem outstandingTransactionWaits : Obligations.OutstandingTransactionWaits := by
  intro a s hq htx hready
  have hwait (o : Operation) : (.next (s.operate o) : Result) = .next s :=
    congrArg _ ((operate_onBus o hq htx).trans (onBus_not_ready o hready))
  exact ⟨hwait _, hwait _, hwait _, hwait _⟩

/-- Settles O26: `retireOk` by kind; the bytes of the read datum are `bytesLE_four`. -/
theorem readsAndWritesRetire : Obligations.ReadsAndWritesRetire := by
  intro a s hq htx hready herr
  have hretire (o : Operation) := operate_retire o hq htx hready herr
  refine ⟨?_, congrArg _ (hretire _), congrArg _ (hretire _)⟩
  rw [exec_rd, hretire, ← bytesLE_four]
  rfl

/-- Settles O27: the condition is tested against the assembled mask and value (`leWord_four`). -/
theorem pollAttemptTestsCondition : Obligations.PollAttemptTestsCondition := by
  intro a s m0 m1 m2 m3 v0 v1 v2 v3 hq htx hready herr hopnd mask value
  have hhit : pollHit s.opnd s.busIn.rdata = (s.busIn.rdata &&& mask == value) := by
    rw [hopnd, pollHit, expectMask, expectValue]
    exact congrArg₂ (fun m v => s.busIn.rdata &&& m == v) (leWord_four m0 m1 m2 m3) (leWord_four v0 v1 v2 v3)
  have hexec : exec (.poll a) s = .next (s.retirePoll s.busIn.rdata s.params.pollBudget) :=
    congrArg _ (operate_retire _ hq htx hready herr)
  rw [hexec, State.retirePoll, hhit]
  refine ⟨fun hmet => ?_, fun hmiss hlast => ?_, fun hmiss hleft => ?_⟩
  · simp [hmet]
  · simp [hmiss, hlast]
  · simp [hmiss, hleft]

/-- Settles O28: a done operation leaves or waits by `lastSeen`. -/
theorem doneOperationAwaitsDataLast : Obligations.DoneOperationAwaitsDataLast := by
  intro a s hq htx
  have hleave {o : Operation} (hdone : opDone o s = true) (hlast : s.lastSeen = true) :
      (.next (s.operate o) : Result) = .next { s with seq := .completing } := by
    rw [operate_done hq htx hdone, hlast]
    rfl
  have hwait {o : Operation} (hdone : opDone o s = true) (hlast : s.lastSeen = false) :
      (.next (s.operate o) : Result) = .next s := by
    rw [operate_done hq htx hdone, hlast]
    rfl
  have hrd (h : s.transDone = 1) : opDone (rdOperation a) s = true := by simp [opDone_rd, h]
  have hwz (h : s.transDone = 1) : opDone (wzOperation a) s = true := by simp [opDone_wz, h]
  have hwr (h : s.transDone = 1) : opDone (wrOperation a) s = true := by simp [opDone_wr, h]
  have hpoll (h : s.pollMet = true ∨ s.attempts = s.params.pollBudget) :
      opDone (pollOperation a s.params.pollBudget) s = true := by simpa [opDone_poll] using h
  exact ⟨fun h hl => ⟨hleave (hrd h) hl, hleave (hwz h) hl, hleave (hwr h) hl⟩,
    fun h hl => ⟨hwait (hrd h) hl, hwait (hwz h) hl, hwait (hwr h) hl⟩,
    fun h hl => hleave (hpoll h) hl, fun h hl => hwait (hpoll h) hl⟩

/-- Settles O43: the wires are the outstanding transaction's, which the invariant says is the operation's own. -/
theorem busWiresShowTransaction : Obligations.BusWiresShowTransaction := by
  refine ⟨fun s tx => busReq_of_txn_some, fun s => busReq_of_txn_none, fun s hinv hread => ?_⟩
  cases htx : s.txn with
  | none => rw [busReq_of_txn_none htx]
  | some tx =>
    rw [busReq_of_txn_some htx] at hread ⊢
    obtain ⟨o, ho, hop⟩ := hinv.working (.inl (hinv.txnExecuting (by simp [htx])))
    obtain ⟨rfl, -, -⟩ := hop.outstanding tx htx
    cases hk : o.kind <;> simp_all [issuedTxn]

end Sys2Proof.Operations
end

section
/-! PROOFS. The obligations on reset, the status, the commands `START` and `DATALAST`, and the step as a whole. -/

namespace Sys2Proof.StepAsAWhole

open Sys2Proof.Machine

/-- Settles O1: the reset state is a literal, and its outputs evaluate. -/
theorem resetStateHoldsTheTable : Obligations.ResetStateHoldsTheTable := by
  rintro s (rfl | rfl) <;> and_intros <;> rfl

/-- Settles O58: one value for each state. -/
theorem statusFollowsSeq : Obligations.StatusFollowsSeq := by
  intro s
  cases hq : s.seq <;> simp [State.status, Status.code, hq]

/-- Settles O13: `openRun` is the cleared run in `AwaitingAddress`; in a run `START` fails. -/
theorem startOpensRunOrRaises : Obligations.StartOpensRunOrRaises :=
  ⟨fun c d _ hr => exec_start_outside_run c d hr, fun c d s hr => by simp [exec, execStart, startCommand, hr]⟩

/-- Settles O16: `DATALAST` appends what `DATA` does (`payloadBytes_getElem?`) and marks the end. -/
theorem datalastAppendsAndMarksEnd : Obligations.DatalastAppendsAndMarksEnd := by
  refine ⟨fun c d s hc hr => ?_, fun c d s hc hr => exec_datalast_outside_run d hc hr, exec_datalast_seven⟩
  exact ⟨payloadBytes c d, payloadBytes_length d hc, fun i => payloadBytes_getElem? d hc, exec_datalast_in_run d hc hr⟩

/-- Settles O3: the decomposition of the step is `step_of_acceptedCommand`; every command is well formed. -/
theorem stepRunsAcceptedCommand : Obligations.StepRunsAcceptedCommand := by
  intro s w hw
  refine ⟨?_, step_of_acceptedCommand (acceptedCommand_of_accepted hw)⟩
  rcases decodeCmd_cases w with h | h | h | h | h | h | h | h <;> rw [h] <;> rfl

/-- A cycle whose Sequencer action is an instruction's runs that instruction. -/
theorem runsOperation_of_action {s : State} {i : Instr} (h : sequencerAction s = exec i s) : RunsOperation s i := by
  refine ⟨h, fun hnone => ?_, fun w hw => ?_⟩
  · have hcycle : step s = andThen (andThen (sequencerAction s) (commandAction (s.accepted.map decodeCmd)))
        (finishCycle s) := by
      unfold step cycle coreCycle
      rw [andThen_assoc _ _ fun t => .next (endCycle Config.hdrLen s t)]
      rfl
    rw [hcycle, hnone, h, andThen_assoc]
    rfl
  · rw [step_of_acceptedCommand (acceptedCommand_of_accepted hw), h]

/-- The address a header word holds is aligned, so its operation is well formed (R96). -/
theorem decodeHdr_wellFormed (h : Word) : (decodeHdr h).wellFormed = true := by
  have haligned : addrAligned (h &&& 0xFFFFFFFC#32) = true := by
    rw [and_addrMask, addrAligned, hdrWord_select]
    rfl
  rw [decodeHdr_eq_operationOf]
  rcases select_cases (h.extractLsb' 0 2) with hk | hk | hk | hk <;> rw [hk] <;> exact haligned

/-- Settles O4: the decode cycle is the instruction of the header by definition, and a later cycle is the recorded
operation's (`sequencerAction_operate`). -/
theorem stepRunsInstructionOfHeader : Obligations.StepRunsInstructionOfHeader := by
  refine ⟨fun s hq hlen => ⟨decodeHdr_wellFormed _, runsOperation_of_action ?_⟩, fun s a hq => ?_⟩
  · have hfour : s.hdr.length = Config.hdrLen := hlen
    simp [sequencerAction, sequencer, hq, hfour, runHeader]
  · exact ⟨fun ho => runsOperation_of_action (sequencerAction_operate hq ho),
      fun ho => runsOperation_of_action (sequencerAction_operate hq ho),
      fun ho => runsOperation_of_action (sequencerAction_operate hq ho),
      fun ho => runsOperation_of_action (sequencerAction_operate hq ho)⟩

theorem accepting_canAccept (s : State) : s.accepting.canAccept = true := by
  unfold State.accepting
  split_ifs with h
  exacts [h, rfl]

theorem accepting_frontEnd (s : State) : s.accepting.frontEnd = s.frontEnd := by
  unfold State.accepting
  split_ifs <;> rfl

/-- A placed command is presented, by either front end, in a state that can accept it. -/
theorem withCommand_accepted (s : State) (w : CmdWord) : (s.withCommand w).accepted = some w := by
  have hacc := accepting_canAccept s
  have hsame := accepting_frontEnd s
  unfold State.withCommand
  cases hfront : s.frontEnd with
  | autonomous => exact (accepted_iff _ w).2 ⟨hacc, presented_held (hsame.trans hfront) rfl⟩
  | stream =>
    refine (accepted_iff _ w).2 ⟨hacc, ?_⟩
    rw [presented_stream (by exact hsame.trans hfront)]
    rfl

/-- A placed header comes with no command, from either front end. -/
theorem withHeader_presented (s : State) (l : List Byte) : (s.withHeader l).presented = none := by
  unfold State.withHeader State.withoutCommand
  cases hfront : s.frontEnd with
  | autonomous => exact presented_noFetch rfl rfl
  | stream => exact (presented_stream rfl).trans (if_neg Bool.false_ne_true)

/-- Settles O5: a command word is presented by either front end and can be accepted (`withCommand_accepted`); four header
bytes make the complete header of an open run that is presented nothing. -/
theorem placedInstructionIsRunNext : Obligations.PlacedInstructionIsRunNext := by
  refine ⟨fun s w => ?_, fun s h => ?_⟩
  · have hplaced : s.withFetchWord 56 w.toNat = s.withCommand w := by
      simp [State.withFetchWord, tableBytes]
    rw [hplaced, withCommand_accepted]
  · have hplaced : s.withFetchWord 32 h.toNat = s.withHeader (bytesLE h.toNat 4) := rfl
    have hnone : (s.withHeader (bytesLE h.toNat 4)).accepted = none := by
      simp [State.accepted, withHeader_presented]
    rw [hplaced]
    exact ⟨hnone, rfl, bytesLE_length _ _, leWord_bytesLE h⟩

end Sys2Proof.StepAsAWhole
end
